-- ==== Sys2Proof/Word.lean ====
section
/-! DEFINITION. The quantities of the block (spec/00_scope.md R6): bytes, bus addresses, counts and
the opaque identities of callbacks.  Every number is unsigned.
A count, an unsigned integer in 0 to `CNT_MAX` (R6), is a plain `Nat`: no count ever wraps (R9), and the
bound is part of the invariant of `Sys2Proof.Safety`. -/

namespace Sys2Proof

/-- A byte, 8 bits (R6). -/
abbrev Byte := BitVec 8

/-- A bus address, 0 to 127 (R6, R12). -/
abbrev BusAddress := BitVec 7

/-- The identity of a receive handler or of a transmit provider: an opaque token (R25, R26). -/
abbrev CallbackId := Nat

end Sys2Proof
end

