-- ==== Sys2Proof/Syntax.lean ====
section
/-! DEFINITION. The enumerated quantities of the block, its output alphabet, the instructions
(one constructor per row of spec/opcode_table.json) and the encoded words that carry them. -/

namespace Sys2Proof

/-- R11: the driver's current state, and the selector of the handlers. -/
inductive Role where
  | idle | masterTransmit | masterReceive | slaveReceive | slaveTransmit
deriving DecidableEq, Repr

/-- R19: the configured mode (the source's config field `role`, renamed: conflict C8). -/
inductive Mode where
  | master | slave
deriving DecidableEq, Repr

/-- R17, R67, R160: the values of `lastError`. -/
inductive ErrorCode where
  | ok | missingAck | lostArbitration | busError
deriving DecidableEq, Repr

/-- R62: the named event a status code stands for.  `unassigned` is every code outside the table. -/
inductive StatusClass where
  | busError | start | repStart
  | mtSlaAck | mtSlaNack | mtDataAck | mtDataNack | arbLost
  | mrSlaAck | mrSlaNack | mrDataAck | mrDataNack
  | srSlaAck | srGcallAck | srDataAck | srDataNack | srGcallDataAck | srGcallDataNack | srStop
  | stSlaAck | stDataAck | stDataNack | stLastData
  | noInfo | unassigned
deriving DecidableEq, Repr

/-- R69: one element of an output list.  `NONE` (R141) has no constructor: it is the empty list, never
a member of one. -/
inductive Op where
  /-- R142, `issueStart()`. -/
  | start
  /-- R143, `issueStop()`. -/
  | stop
  /-- R144, `requestNextWithAck()`. -/
  | nextAck
  /-- R145, `requestNextWithoutAck()`. -/
  | nextNack
  /-- R146, give up the bus with no stop condition. -/
  | release
  /-- R147, `writeDataRegister(byte)`. -/
  | wrData (b : Byte)
  /-- R148, `readDataRegister() -> byte`; the answer is an input, not part of the operation. -/
  | rdData
  /-- R149, `enable()`.  It carries no value; `pullupEnabled` is regarded as handed over inside it
  (notes/assumptions/18.md). -/
  | enable
  /-- R150, `disable()`. -/
  | disableBc
  /-- R151, `setOwnAddress(7-bit)`. -/
  | setOwnAddr (a : BusAddress)
  /-- R152, `setClockDivisor(value)`.  The divisor is computed outside the block; as R152 allows, the
  operation carries the `clockSpeedHz` it is computed from. -/
  | setClockDiv (clockSpeedHz : Nat)
  /-- R153, the receive handler `fn(buffer, length)`. -/
  | callRx (h : CallbackId) (bytes : List Byte) (n : Nat)
  /-- R154, the transmit provider `fn() -> buffer`; the answer is an input. -/
  | callTx (p : CallbackId)
deriving DecidableEq, Repr

/-- The instructions: 26 dispatches (format D), 6 host commands (format C) and the 14 operations of
the bus-action encoder (format A), in the order of spec/opcode_table.json. -/
inductive Instr where
  -- format D: dispatches, files 41 to 45
  | anyBusError | anyArbLost | anyNoInfo
  | idleSrSlaAck | idleSrGcallAck | idleStSlaAck
  | mtStart | mtRepStart | mtSlaAck | mtSlaNack | mtDataAck | mtDataNack
  | mrStart | mrRepStart | mrSlaAck | mrSlaNack | mrDataAck | mrDataNack
  | srDataAck | srDataNack | srGcallDataAck | srGcallDataNack | srStop
  | stDataAck | stDataNack | stLastData
  -- format C: host commands, file 40
  | init (mode : Mode) (clockSpeedHz : Nat) (ownAddress : BusAddress)
      (receiveBufferCapacity : Nat) (pullupEnabled : Bool)
  | disable
  | sendTo (address : BusAddress) (data : List Byte) (length : Nat)
  | readFrom (address : BusAddress) (buffer : List Byte) (length : Nat)
  | setRxHandler (h : CallbackId)
  | setTxProvider (p : CallbackId) (maxLength : Nat)
  -- format A: operations of the bus-action encoder, file 46
  | opNone | opStart | opStop | opNextAck | opNextNack | opRelease
  | opWrData (b : Byte)
  | opRdData | opEnable | opDisableBc
  | opSetOwnAddr (a : BusAddress)
  | opSetClockDiv (clockSpeedHz : Nat)
  | opCallRx (h : CallbackId) (bytes : List Byte) (n : Nat)
  | opCallTx (p : CallbackId)
deriving DecidableEq, Repr

/-- R68: the operand fields of a host command.  They are typed values beside the 3-bit opcode, not
packed bits; an opcode reads the fields R68 lists for it and no other. -/
structure CommandArgs where
  /-- `INIT`: Master = 0, Slave = 1. -/
  mode : BitVec 1 := 0
  /-- `INIT`: unsigned. -/
  clockSpeedHz : Nat := 0
  /-- `INIT`: 7 bits. -/
  ownAddress : BusAddress := 0
  /-- `INIT`: count. -/
  receiveBufferCapacity : Nat := 0
  /-- `INIT`: 1 bit. -/
  pullupEnabled : Bool := false
  /-- `SEND_TO`, `READ_FROM`: 7 bits. -/
  address : BusAddress := 0
  /-- `SEND_TO`: the byte sequence `data`.  `READ_FROM`: the content of the caller's `buffer`. -/
  bytes : List Byte := []
  /-- `SEND_TO`, `READ_FROM`: count. -/
  length : Nat := 0
  /-- `SET_RX_HANDLER`: `h`.  `SET_TX_PROVIDER`: `p`. -/
  callback : CallbackId := 0
  /-- `SET_TX_PROVIDER`: count. -/
  maxLength : Nat := 0
deriving DecidableEq, Repr

/-- R69: the operand of a bus or callback operation: `arg[7:0]`, and the operands R69 gives no bits. -/
structure OpArgs where
  /-- `WR_DATA`: the byte.  `SET_OWN_ADDR`: the address in `arg[6:0]`. -/
  arg : BitVec 8 := 0
  /-- `SET_CLOCK_DIV`: the opaque value. -/
  value : Nat := 0
  /-- `CALL_RX`, `CALL_TX`: the callback's identity. -/
  callback : CallbackId := 0
  /-- `CALL_RX`: the byte sequence. -/
  bytes : List Byte := []
  /-- `CALL_RX`: the count. -/
  count : Nat := 0
deriving DecidableEq, Repr

/-- R60: an encoded word, in one of the formats the decoder reads.  A status code (format S) becomes a
dispatch word once the machine has put its `role` in front of it (R64). -/
inductive Word where
  /-- Format D, `role[10:8] : status[7:0]`. -/
  | dispatch (d : BitVec 11)
  /-- Format C, `cop[2:0]` and the operand fields. -/
  | command (cop : BitVec 3) (args : CommandArgs)
  /-- Format A, `bop[3:0]` and its operand. -/
  | operation (bop : BitVec 4) (args : OpArgs)
deriving DecidableEq, Repr

/-- What the outside world presents to the block for one step. -/
inductive Packet where
  /-- A bus-phase interrupt (R164): the status code in the controller's status register, and the
  environment's answers to the `RD_DATA` and the `CALL_TX` of this step (R8). -/
  | interrupt (status : BitVec 8) (dr : Byte) (tx : List Byte)
  /-- A host command (R80). -/
  | command (cop : BitVec 3) (args : CommandArgs)
  /-- One operation given to the bus-action encoder by itself, with the environment's answers: the
  model's own input, see notes/assumptions/3.md (DESIGN CHOICE, safe). -/
  | operation (bop : BitVec 4) (args : OpArgs) (dr : Byte) (tx : List Byte)
deriving DecidableEq, Repr

/-- Is the packet an input the spec gives the block (an interrupt or a command)? -/
def Packet.isExternal : Packet → Bool
  | .interrupt _ _ _ => true
  | .command _ _ => true
  | .operation _ _ _ _ => false

end Sys2Proof
end

