-- ==== Sys2Proof/Config.lean ====
section
/-! DEFINITION. The implementation parameters (spec/00_scope.md R5).  A machine carries them as
plain data that no step writes, so every statement over all states holds for every value of them.
The spec's defaults are `Config.standard` in Sys2Proof/Decode.lean. -/

namespace Sys2Proof

/-- R5: the parameters the model takes as arguments. -/
structure Config where
  /-- `CNT_MAX`, the largest value a count can hold (decision D27). -/
  cntMax : Nat
  /-- `RX_CAP_MAX`, the largest `receiveBufferCapacity` that `INIT` accepts (decision D27). -/
  rxCapMax : Nat
  /-- `CLOCK_MAX_HZ`, the largest `clockSpeedHz` that `INIT` accepts in Master mode. -/
  clockMaxHz : Nat
  /-- `SYMMETRIC_NACK`, whether `MR.SLA_NACK` records `MissingAck` (conflict C1, decision D8). -/
  symmetricNack : Bool
  /-- `statusDecode` as a table: a code that is not listed has the class `UNASSIGNED` (decision D1). -/
  statusTable : List (BitVec 8 × StatusClass)
deriving DecidableEq, Repr

end Sys2Proof
end

