-- ==== Sys2Proof/WellFormed.lean ====
section
/-! DEFINITION. Which instructions have operands of the types spec/30_encoding.md R68 and R69 give
them, beyond what the Lean types already say. -/

namespace Sys2Proof

/-- The operands are of the types the spec gives: a count is at most `CNT_MAX` (R6); `data` and
`buffer` hold at least `length` bytes (R68, R83, R84); the sequence of `CALL_RX` has as many bytes as
its count says (R153).  `INIT` is always well formed: a capacity out of range is refused by the
command's own acceptance condition (R81). -/
def wellFormed (cfg : Config) : Instr → Bool
  | .sendTo _ data length => decide (length ≤ cfg.cntMax) && decide (length ≤ data.length)
  | .readFrom _ buffer length => decide (length ≤ cfg.cntMax) && decide (length ≤ buffer.length)
  | .setTxProvider _ maxLength => decide (maxLength ≤ cfg.cntMax)
  | .opCallRx _ bytes n => decide (n ≤ cfg.cntMax) && decide (bytes.length = n)
  | .anyBusError | .anyArbLost | .anyNoInfo => true
  | .idleSrSlaAck | .idleSrGcallAck | .idleStSlaAck => true
  | .mtStart | .mtRepStart | .mtSlaAck | .mtSlaNack | .mtDataAck | .mtDataNack => true
  | .mrStart | .mrRepStart | .mrSlaAck | .mrSlaNack | .mrDataAck | .mrDataNack => true
  | .srDataAck | .srDataNack | .srGcallDataAck | .srGcallDataNack | .srStop => true
  | .stDataAck | .stDataNack | .stLastData => true
  | .init _ _ _ _ _ | .disable | .setRxHandler _ => true
  | .opNone | .opStart | .opStop | .opNextAck | .opNextNack | .opRelease => true
  | .opWrData _ | .opRdData | .opEnable | .opDisableBc | .opSetOwnAddr _ => true
  | .opSetClockDiv _ | .opCallTx _ => true

end Sys2Proof
end

