-- ==== Sys2Proof/Decode.lean ====
section
/-! DEFINITION. The encodings of spec/30_encoding.md: status classes, role, dispatch word, error code,
command and bus operation; the decoder, total on every word, which rejects by name; and the encoder. -/

namespace Sys2Proof

/-! ## The status code (R61, R62) -/

/-- R62: the default `statusDecode`, the spec's own choice (decision D1). -/
def standardStatusTable : List (BitVec 8 × StatusClass) := [
  (0x00, .busError), (0x08, .start), (0x10, .repStart), (0x18, .mtSlaAck),
  (0x20, .mtSlaNack), (0x28, .mtDataAck), (0x30, .mtDataNack), (0x38, .arbLost),
  (0x40, .mrSlaAck), (0x48, .mrSlaNack), (0x50, .mrDataAck), (0x58, .mrDataNack),
  (0x60, .srSlaAck), (0x70, .srGcallAck), (0x80, .srDataAck), (0x88, .srDataNack),
  (0x90, .srGcallDataAck), (0x98, .srGcallDataNack), (0xa0, .srStop), (0xa8, .stSlaAck),
  (0xb8, .stDataAck), (0xc0, .stDataNack), (0xc8, .stLastData), (0xf8, .noInfo)]

/-- R5: the parameters at the spec's defaults (decisions D1, D8, D27; 400000 is the source's). -/
def Config.standard : Config where
  cntMax := 255
  rxCapMax := 255
  clockMaxHz := 400000
  symmetricNack := true
  statusTable := standardStatusTable

/-- R61, R62: the class of a status code; a code that the table does not list is `UNASSIGNED`. -/
def statusDecode : List (BitVec 8 × StatusClass) → BitVec 8 → StatusClass
  | [], _ => .unassigned
  | (code, cls) :: rest, status => if code = status then cls else statusDecode rest status

/-! ## Enumerated codes -/

/-- R63: the 3-bit role code. -/
def Role.code : Role → BitVec 3
  | .idle => 0
  | .masterTransmit => 1
  | .masterReceive => 2
  | .slaveReceive => 3
  | .slaveTransmit => 4

/-- R63: the role with a code; 5, 6 and 7 are the code of none. -/
def Role.ofCode (c : BitVec 3) : Option Role :=
  if c = 0 then some .idle
  else if c = 1 then some .masterTransmit
  else if c = 2 then some .masterReceive
  else if c = 3 then some .slaveReceive
  else if c = 4 then some .slaveTransmit
  else none

/-- R19, R68: the 1-bit code of `mode`. -/
def Mode.code : Mode → BitVec 1
  | .master => 0
  | .slave => 1

/-- R19, R68: the mode with a code. -/
def Mode.ofCode (c : BitVec 1) : Mode := if c = 0 then .master else .slave

/-- R67: the 2-bit error code. -/
def ErrorCode.code : ErrorCode → BitVec 2
  | .ok => 0
  | .missingAck => 1
  | .lostArbitration => 2
  | .busError => 3

/-- R69: `bop` and the operand of an operation of the output list. -/
def Op.encode : Op → BitVec 4 × OpArgs
  | .start => (1, {})
  | .stop => (2, {})
  | .nextAck => (3, {})
  | .nextNack => (4, {})
  | .release => (5, {})
  | .wrData b => (6, { arg := b })
  | .rdData => (7, {})
  | .enable => (8, {})
  | .disableBc => (9, {})
  | .setOwnAddr a => (10, { arg := a.setWidth 8 })
  | .setClockDiv v => (11, { value := v })
  | .callRx h bytes n => (12, { callback := h, bytes := bytes, count := n })
  | .callTx p => (13, { callback := p })

/-! ## The dispatch word (R64) and its handler (R65) -/

/-- R64: `D = role[2:0] : status[7:0]`. -/
def dispatchWord (role : BitVec 3) (status : BitVec 8) : BitVec 11 := role ++ status

/-- `D[10:8]` (R64). -/
def dispatchRoleCode (d : BitVec 11) : BitVec 3 := d.extractLsb' 8 3

/-- `D[7:0]` (R64). -/
def dispatchStatus (d : BitVec 11) : BitVec 8 := d.extractLsb' 0 8

/-- The common handlers (file 45), defined in every role. -/
def dispatchAny : StatusClass → Option Instr
  | .busError => some .anyBusError
  | .arbLost => some .anyArbLost
  | .noInfo => some .anyNoInfo
  | .start | .repStart | .mtSlaAck | .mtSlaNack | .mtDataAck | .mtDataNack | .mrSlaAck
  | .mrSlaNack | .mrDataAck | .mrDataNack | .srSlaAck | .srGcallAck | .srDataAck | .srDataNack
  | .srGcallDataAck | .srGcallDataNack | .srStop | .stSlaAck | .stDataAck | .stDataNack | .stLastData
  | .unassigned => none

/-- The handlers of role `Idle` (files 43 and 44: the three slave triggers); every other class is undefined for it. -/
def dispatchIdle : StatusClass → Option Instr
  | .srSlaAck => some .idleSrSlaAck
  | .srGcallAck => some .idleSrGcallAck
  | .stSlaAck => some .idleStSlaAck
  | .busError | .start | .repStart | .mtSlaAck | .mtSlaNack | .mtDataAck | .mtDataNack
  | .arbLost | .mrSlaAck | .mrSlaNack | .mrDataAck | .mrDataNack | .srDataAck | .srDataNack
  | .srGcallDataAck | .srGcallDataNack | .srStop | .stDataAck | .stDataNack | .stLastData | .noInfo
  | .unassigned => none

/-- The handlers of role `MasterTransmit` (file 41); every other class is undefined for it. -/
def dispatchMasterTransmit : StatusClass → Option Instr
  | .start => some .mtStart
  | .repStart => some .mtRepStart
  | .mtSlaAck => some .mtSlaAck
  | .mtSlaNack => some .mtSlaNack
  | .mtDataAck => some .mtDataAck
  | .mtDataNack => some .mtDataNack
  | .busError | .arbLost | .mrSlaAck | .mrSlaNack | .mrDataAck | .mrDataNack | .srSlaAck
  | .srGcallAck | .srDataAck | .srDataNack | .srGcallDataAck | .srGcallDataNack | .srStop | .stSlaAck
  | .stDataAck | .stDataNack | .stLastData | .noInfo | .unassigned => none

/-- The handlers of role `MasterReceive` (file 42); every other class is undefined for it. -/
def dispatchMasterReceive : StatusClass → Option Instr
  | .start => some .mrStart
  | .repStart => some .mrRepStart
  | .mrSlaAck => some .mrSlaAck
  | .mrSlaNack => some .mrSlaNack
  | .mrDataAck => some .mrDataAck
  | .mrDataNack => some .mrDataNack
  | .busError | .mtSlaAck | .mtSlaNack | .mtDataAck | .mtDataNack | .arbLost | .srSlaAck
  | .srGcallAck | .srDataAck | .srDataNack | .srGcallDataAck | .srGcallDataNack | .srStop | .stSlaAck
  | .stDataAck | .stDataNack | .stLastData | .noInfo | .unassigned => none

/-- The handlers of role `SlaveReceive` (file 43); every other class is undefined for it. -/
def dispatchSlaveReceive : StatusClass → Option Instr
  | .srDataAck => some .srDataAck
  | .srDataNack => some .srDataNack
  | .srGcallDataAck => some .srGcallDataAck
  | .srGcallDataNack => some .srGcallDataNack
  | .srStop => some .srStop
  | .busError | .start | .repStart | .mtSlaAck | .mtSlaNack | .mtDataAck | .mtDataNack
  | .arbLost | .mrSlaAck | .mrSlaNack | .mrDataAck | .mrDataNack | .srSlaAck | .srGcallAck
  | .stSlaAck | .stDataAck | .stDataNack | .stLastData | .noInfo | .unassigned => none

/-- The handlers of role `SlaveTransmit` (file 44); every other class is undefined for it. -/
def dispatchSlaveTransmit : StatusClass → Option Instr
  | .stDataAck => some .stDataAck
  | .stDataNack => some .stDataNack
  | .stLastData => some .stLastData
  | .busError | .start | .repStart | .mtSlaAck | .mtSlaNack | .mtDataAck | .mtDataNack
  | .arbLost | .mrSlaAck | .mrSlaNack | .mrDataAck | .mrDataNack | .srSlaAck | .srGcallAck
  | .srDataAck | .srDataNack | .srGcallDataAck | .srGcallDataNack | .srStop | .stSlaAck | .noInfo
  | .unassigned => none

/-- R65, columns 2 and 3: the handler of a role for a status class. -/
def dispatchRole : Role → StatusClass → Option Instr
  | .idle, c => dispatchIdle c
  | .masterTransmit, c => dispatchMasterTransmit c
  | .masterReceive, c => dispatchMasterReceive c
  | .slaveReceive, c => dispatchSlaveReceive c
  | .slaveTransmit, c => dispatchSlaveTransmit c

/-- R65: the handler of a dispatch word.  The common rows do not look at the role bits (mask 0x0FF). -/
def decodeDispatch (table : List (BitVec 8 × StatusClass)) (d : BitVec 11) : Option Instr :=
  match dispatchAny (statusDecode table (dispatchStatus d)) with
  | some i => some i
  | none =>
    match Role.ofCode (dispatchRoleCode d) with
    | none => none
    | some r => dispatchRole r (statusDecode table (dispatchStatus d))

/-! ## Commands and operations (R68, R69) -/

/-- R68: the command with opcode `cop`; 6 and 7 are reserved. -/
def decodeCommand (cop : BitVec 3) (a : CommandArgs) : Option Instr :=
  if cop = 0 then
    some (.init (Mode.ofCode a.mode) a.clockSpeedHz a.ownAddress a.receiveBufferCapacity a.pullupEnabled)
  else if cop = 1 then some .disable
  else if cop = 2 then some (.sendTo a.address a.bytes a.length)
  else if cop = 3 then some (.readFrom a.address a.bytes a.length)
  else if cop = 4 then some (.setRxHandler a.callback)
  else if cop = 5 then some (.setTxProvider a.callback a.maxLength)
  else none

/-- R69: the operation with code `bop`; 14 and 15 are reserved. -/
def decodeOperation (bop : BitVec 4) (a : OpArgs) : Option Instr :=
  if bop = 0 then some .opNone
  else if bop = 1 then some .opStart
  else if bop = 2 then some .opStop
  else if bop = 3 then some .opNextAck
  else if bop = 4 then some .opNextNack
  else if bop = 5 then some .opRelease
  else if bop = 6 then some (.opWrData a.arg)
  else if bop = 7 then some .opRdData
  else if bop = 8 then some .opEnable
  else if bop = 9 then some .opDisableBc
  else if bop = 10 then some (.opSetOwnAddr (a.arg.extractLsb' 0 7))
  else if bop = 11 then some (.opSetClockDiv a.value)
  else if bop = 12 then some (.opCallRx a.callback a.bytes a.count)
  else if bop = 13 then some (.opCallTx a.callback)
  else none

/-! ## Names -/

/-- The mnemonic of an instruction, as spec/opcode_table.json spells it. -/
def Instr.mnemonic : Instr → String
  | .anyBusError => "ANY.BUS_ERROR"
  | .anyArbLost => "ANY.ARB_LOST"
  | .anyNoInfo => "ANY.NO_INFO"
  | .idleSrSlaAck => "IDLE.SR_SLA_ACK"
  | .idleSrGcallAck => "IDLE.SR_GCALL_ACK"
  | .idleStSlaAck => "IDLE.ST_SLA_ACK"
  | .mtStart => "MT.START"
  | .mtRepStart => "MT.REP_START"
  | .mtSlaAck => "MT.SLA_ACK"
  | .mtSlaNack => "MT.SLA_NACK"
  | .mtDataAck => "MT.DATA_ACK"
  | .mtDataNack => "MT.DATA_NACK"
  | .mrStart => "MR.START"
  | .mrRepStart => "MR.REP_START"
  | .mrSlaAck => "MR.SLA_ACK"
  | .mrSlaNack => "MR.SLA_NACK"
  | .mrDataAck => "MR.DATA_ACK"
  | .mrDataNack => "MR.DATA_NACK"
  | .srDataAck => "SR.DATA_ACK"
  | .srDataNack => "SR.DATA_NACK"
  | .srGcallDataAck => "SR.GCALL_DATA_ACK"
  | .srGcallDataNack => "SR.GCALL_DATA_NACK"
  | .srStop => "SR.STOP"
  | .stDataAck => "ST.DATA_ACK"
  | .stDataNack => "ST.DATA_NACK"
  | .stLastData => "ST.LAST_DATA"
  | .init _ _ _ _ _ => "INIT"
  | .disable => "DISABLE"
  | .sendTo _ _ _ => "SEND_TO"
  | .readFrom _ _ _ => "READ_FROM"
  | .setRxHandler _ => "SET_RX_HANDLER"
  | .setTxProvider _ _ => "SET_TX_PROVIDER"
  | .opNone => "NONE"
  | .opStart => "START"
  | .opStop => "STOP"
  | .opNextAck => "NEXT_ACK"
  | .opNextNack => "NEXT_NACK"
  | .opRelease => "RELEASE"
  | .opWrData _ => "WR_DATA"
  | .opRdData => "RD_DATA"
  | .opEnable => "ENABLE"
  | .opDisableBc => "DISABLE_BC"
  | .opSetOwnAddr _ => "SET_OWN_ADDR"
  | .opSetClockDiv _ => "SET_CLOCK_DIV"
  | .opCallRx _ _ _ => "CALL_RX"
  | .opCallTx _ => "CALL_TX"

/-! ## The decoder -/

/-- Why a word is no instruction. -/
inductive Reject where
  /-- R70 (a), (b): no dispatch for this word; the machine raises `ProtocolViolation` (R133). -/
  | undefinedDispatch (d : BitVec 11)
  /-- R70 (c): a reserved command opcode. -/
  | reservedCommand (cop : BitVec 3)
  /-- R70 (d): a reserved bus operation. -/
  | reservedOperation (bop : BitVec 4)
  /-- An operand outside its type (see `wellFormed`). -/
  | illFormed (mnemonic : String)
deriving DecidableEq, Repr

/-- An instruction whose operands are of the types the spec gives them, or a rejection by name. -/
def checkOperands (cfg : Config) (i : Instr) : Except Reject Instr :=
  if wellFormed cfg i then .ok i else .error (.illFormed i.mnemonic)

/-- The decoder, total on every word (R60, R65, R68, R69, R70). -/
def decode (cfg : Config) : Word → Except Reject Instr
  | .dispatch d =>
    match decodeDispatch cfg.statusTable d with
    | some i => .ok i
    | none => .error (.undefinedDispatch d)
  | .command cop args =>
    match decodeCommand cop args with
    | some i => checkOperands cfg i
    | none => .error (.reservedCommand cop)
  | .operation bop args =>
    match decodeOperation bop args with
    | some i => checkOperands cfg i
    | none => .error (.reservedOperation bop)

/-! ## The encoder -/

/-- The word of an instruction (R65's `match` column, R68, R69), with the role bits 0 in the three
common rows, which do not look at them.  Dispatch words use the default status codes (R62). -/
def encode : Instr → Word
  | .anyBusError => .dispatch 0x000
  | .anyArbLost => .dispatch 0x038
  | .anyNoInfo => .dispatch 0x0f8
  | .idleSrSlaAck => .dispatch 0x060
  | .idleSrGcallAck => .dispatch 0x070
  | .idleStSlaAck => .dispatch 0x0a8
  | .mtStart => .dispatch 0x108
  | .mtRepStart => .dispatch 0x110
  | .mtSlaAck => .dispatch 0x118
  | .mtSlaNack => .dispatch 0x120
  | .mtDataAck => .dispatch 0x128
  | .mtDataNack => .dispatch 0x130
  | .mrStart => .dispatch 0x208
  | .mrRepStart => .dispatch 0x210
  | .mrSlaAck => .dispatch 0x240
  | .mrSlaNack => .dispatch 0x248
  | .mrDataAck => .dispatch 0x250
  | .mrDataNack => .dispatch 0x258
  | .srDataAck => .dispatch 0x380
  | .srDataNack => .dispatch 0x388
  | .srGcallDataAck => .dispatch 0x390
  | .srGcallDataNack => .dispatch 0x398
  | .srStop => .dispatch 0x3a0
  | .stDataAck => .dispatch 0x4b8
  | .stDataNack => .dispatch 0x4c0
  | .stLastData => .dispatch 0x4c8
  | .init mode clock own cap pullup =>
    .command 0 { mode := mode.code, clockSpeedHz := clock, ownAddress := own,
                 receiveBufferCapacity := cap, pullupEnabled := pullup }
  | .disable => .command 1 {}
  | .sendTo a data n => .command 2 { address := a, bytes := data, length := n }
  | .readFrom a buffer n => .command 3 { address := a, bytes := buffer, length := n }
  | .setRxHandler h => .command 4 { callback := h }
  | .setTxProvider p maxLength => .command 5 { callback := p, maxLength := maxLength }
  | .opNone => .operation 0 {}
  | .opStart => .operation 1 {}
  | .opStop => .operation 2 {}
  | .opNextAck => .operation 3 {}
  | .opNextNack => .operation 4 {}
  | .opRelease => .operation 5 {}
  | .opWrData b => .operation 6 { arg := b }
  | .opRdData => .operation 7 {}
  | .opEnable => .operation 8 {}
  | .opDisableBc => .operation 9 {}
  | .opSetOwnAddr a => .operation 10 { arg := a.setWidth 8 }
  | .opSetClockDiv v => .operation 11 { value := v }
  | .opCallRx h bytes n => .operation 12 { callback := h, bytes := bytes, count := n }
  | .opCallTx p => .operation 13 { callback := p }

/-! ## The opcode table, as spec/opcode_table.json and R65 write it -/

/-- One row: a word `w` of the row's format matches when `w & mask = pattern`. -/
structure Row where
  mnemonic : String
  pattern : Nat
  mask : Nat
deriving DecidableEq, Repr

/-- Does a word match a row (R65)? -/
def Row.accepts (r : Row) (w : Nat) : Bool := w &&& r.mask == r.pattern

/-- The 26 rows of format D (R65). -/
def dispatchRows : List Row := [
  ⟨"ANY.BUS_ERROR", 0x0, 0xff⟩,
  ⟨"ANY.ARB_LOST", 0x38, 0xff⟩,
  ⟨"ANY.NO_INFO", 0xf8, 0xff⟩,
  ⟨"IDLE.SR_SLA_ACK", 0x60, 0x7ff⟩,
  ⟨"IDLE.SR_GCALL_ACK", 0x70, 0x7ff⟩,
  ⟨"IDLE.ST_SLA_ACK", 0xa8, 0x7ff⟩,
  ⟨"MT.START", 0x108, 0x7ff⟩,
  ⟨"MT.REP_START", 0x110, 0x7ff⟩,
  ⟨"MT.SLA_ACK", 0x118, 0x7ff⟩,
  ⟨"MT.SLA_NACK", 0x120, 0x7ff⟩,
  ⟨"MT.DATA_ACK", 0x128, 0x7ff⟩,
  ⟨"MT.DATA_NACK", 0x130, 0x7ff⟩,
  ⟨"MR.START", 0x208, 0x7ff⟩,
  ⟨"MR.REP_START", 0x210, 0x7ff⟩,
  ⟨"MR.SLA_ACK", 0x240, 0x7ff⟩,
  ⟨"MR.SLA_NACK", 0x248, 0x7ff⟩,
  ⟨"MR.DATA_ACK", 0x250, 0x7ff⟩,
  ⟨"MR.DATA_NACK", 0x258, 0x7ff⟩,
  ⟨"SR.DATA_ACK", 0x380, 0x7ff⟩,
  ⟨"SR.DATA_NACK", 0x388, 0x7ff⟩,
  ⟨"SR.GCALL_DATA_ACK", 0x390, 0x7ff⟩,
  ⟨"SR.GCALL_DATA_NACK", 0x398, 0x7ff⟩,
  ⟨"SR.STOP", 0x3a0, 0x7ff⟩,
  ⟨"ST.DATA_ACK", 0x4b8, 0x7ff⟩,
  ⟨"ST.DATA_NACK", 0x4c0, 0x7ff⟩,
  ⟨"ST.LAST_DATA", 0x4c8, 0x7ff⟩]

/-- The 6 rows of format C (R68). -/
def commandRows : List Row := [
  ⟨"INIT", 0x0, 0x7⟩,
  ⟨"DISABLE", 0x1, 0x7⟩,
  ⟨"SEND_TO", 0x2, 0x7⟩,
  ⟨"READ_FROM", 0x3, 0x7⟩,
  ⟨"SET_RX_HANDLER", 0x4, 0x7⟩,
  ⟨"SET_TX_PROVIDER", 0x5, 0x7⟩]

/-- The 14 rows of format A (R69). -/
def operationRows : List Row := [
  ⟨"NONE", 0x0, 0xf⟩,
  ⟨"START", 0x1, 0xf⟩,
  ⟨"STOP", 0x2, 0xf⟩,
  ⟨"NEXT_ACK", 0x3, 0xf⟩,
  ⟨"NEXT_NACK", 0x4, 0xf⟩,
  ⟨"RELEASE", 0x5, 0xf⟩,
  ⟨"WR_DATA", 0x6, 0xf⟩,
  ⟨"RD_DATA", 0x7, 0xf⟩,
  ⟨"ENABLE", 0x8, 0xf⟩,
  ⟨"DISABLE_BC", 0x9, 0xf⟩,
  ⟨"SET_OWN_ADDR", 0xa, 0xf⟩,
  ⟨"SET_CLOCK_DIV", 0xb, 0xf⟩,
  ⟨"CALL_RX", 0xc, 0xf⟩,
  ⟨"CALL_TX", 0xd, 0xf⟩]

/-- The mnemonics of the rows that a word of some format matches. -/
def matchingRows (rows : List Row) (w : Nat) : List String :=
  (rows.filter (·.accepts w)).map (·.mnemonic)

/-! ## A table word, numbered as the opcode table numbers its bits -/

/-- The word that `nbits` bits of value `w` stand for.  More than 8 bits can only be a dispatch word
(11 bits).  The three formats overlap in 8 bits (the table gives `INIT`, `NONE` and `ANY.BUS_ERROR`
the same bits): a value below 6 is read as a command, 6 to 13 as an operation, and any other as a
status code in role Idle (notes/assumptions/4.md). -/
def tableWord (nbits w : Nat) : Option Word :=
  if nbits ≤ 8 then
    if w < 6 then some (.command (BitVec.ofNat 3 w) {})
    else if w < 14 then some (.operation (BitVec.ofNat 4 w) {})
    else if w < 256 then some (.dispatch (BitVec.ofNat 11 w))
    else none
  else if w < 2048 then some (.dispatch (BitVec.ofNat 11 w))
  else none

/-- The instruction the decoder reads from a table word, operands zero. -/
def decodeTableWord (nbits w : Nat) : Option Instr :=
  match tableWord nbits w with
  | none => none
  | some word =>
    match decode Config.standard word with
    | .ok i => some i
    | .error _ => none

end Sys2Proof
end

