-- ==== Sys2Proof/Machine/State.lean ====
section
/-! DEFINITION. The state of the block (spec/10_state.md, spec/20_memory.md), as plain data, the
reasons a step can stop, and the state after reset (R30, R180). -/

namespace Sys2Proof.Machine

/-- R40: a byte store, as the list of the bytes it holds: (index, byte) pairs in strictly rising order
of index.  An index that is not listed holds no byte. -/
abbrev Memory := List Host.Cell

/-- The three byte stores of the block (R40). -/
inductive StoreName where
  /-- The master buffer, the caller's storage (R41). -/
  | mb
  /-- The slave receive buffer (R42). -/
  | rxb
  /-- The slave transmit buffer (R43). -/
  | txb
deriving DecidableEq, Repr

/-- The observable output of one completed step (R140): its operations in order and, for the two
commands that have one, the `accepted` bit (R31). -/
structure StepRecord where
  ops : List Op
  accepted : Option Bool
deriving DecidableEq, Repr

/-- Why a step ends in a fault. -/
inductive Fault where
  /-- R163: an undefined dispatch, with the role and the status code that caused it.  Raised by the
  bus-phase interrupt when no handler matches (R133).  Safe: there is no successor state. -/
  | protocolViolation (role : Role) (status : BitVec 8)
  /-- Raised by a handler that sends `store[index]` when the store holds no byte there.  R41, R42 and
  R43 say that no such access happens.  Safe: the machine stops, and no state that meets the invariant
  of `Sys2Proof.Safety` raises it. -/
  | noByte (store : StoreName) (index : Nat)
  /-- Raised by `SR.STOP` when `RXB[0 .. count-1]` is not all written.  R42 says that this prefix is
  what the transaction stored.  Safe, as `noByte`. -/
  | noPrefix (count : Nat)
deriving DecidableEq, Repr

/-- Why a step is refused. -/
inductive Refusal where
  /-- Raised by `exec` for an instruction that has no meaning yet.  Safe. -/
  | notModelled (mnemonic : String)
  /-- Raised by the command port for the opcodes 6 and 7, which R68 and R70 (c) reserve;
  the refusal is the model's choice (notes/assumptions/19.md).  Safe. -/
  | reservedCommand (cop : BitVec 3)
  /-- Raised by the bus-action encoder for the codes 14 and 15, which R69 and R70 (d)
  reserve; the refusal is the model's choice (notes/assumptions/19.md).  Safe. -/
  | reservedOperation (bop : BitVec 4)
  /-- Raised by a port for operands outside the types R68 and R69 give them (a count above `CNT_MAX`, a
  sequence shorter than the length given with it): such a command cannot be expressed.  Safe. -/
  | illFormed (mnemonic : String)
deriving DecidableEq, Repr

/-- All state of one driver instance (R10), of the controller registers it reaches (R44, R45), and the
model's record of inputs and outputs. -/
structure State where
  /-- R5: the implementation parameters.  The model's own field: no step writes it. -/
  config : Config
  -- the Transaction Context (R10 to R18)
  /-- R11. -/
  role : Role
  /-- R12. -/
  peerAddress : BusAddress
  /-- R14: the index of the next byte to move. -/
  cursor : Nat
  /-- R15: the number of bytes the transaction is to move. -/
  length : Nat
  /-- R17. -/
  lastError : ErrorCode
  -- the configuration registers (R19 to R23)
  /-- R19. -/
  mode : Mode
  /-- R20. -/
  ownAddress : BusAddress
  /-- R21: the size of RXB. -/
  rxCapacity : Nat
  /-- R22. -/
  clockSpeedHz : Nat
  /-- R22. -/
  pullupEnabled : Bool
  /-- R23. -/
  enabled : Bool
  -- the slave registrations (R25, R26)
  /-- R25. -/
  rxHandler : Option CallbackId
  /-- R25: the copy that the transaction in flight uses. -/
  rxHandlerActive : Option CallbackId
  /-- R26. -/
  txProvider : Option CallbackId
  /-- R26. -/
  maxTxLength : Nat
  -- the byte stores (R40 to R43)
  /-- R41. -/
  mb : Memory
  /-- R42. -/
  rxb : Memory
  /-- R43. -/
  txb : Memory
  -- the Bus Controller's registers, and the environment's answers (R27 (c), R44, R45)
  /-- R44: the data register. -/
  dr : Byte
  /-- R45: the status register. -/
  sr : BitVec 8
  /-- R154: the byte sequence the transmit provider returns if this step calls it. -/
  txAnswer : List Byte
  -- the model's own record (R8, R140)
  /-- What the outside world presents from here on, in order: interrupts and commands. -/
  inbox : List Packet
  /-- R140: the output list of the step in progress, or of the last one. -/
  out : List Op
  /-- R31: the result of the step in progress, or of the last one; `none` where it has no result. -/
  accepted : Option Bool
  /-- R140: the event history, the outputs of every completed step, oldest first. -/
  history : List StepRecord
deriving DecidableEq, Repr

/-- R30, R180: the state after reset.  The values are those of R30's table (decision D26), those of
the fields that R30 does not list are in notes/assumptions/2.md. -/
def State.reset : State where
  config := Config.standard
  role := .idle
  peerAddress := 0
  cursor := 0
  length := 0
  lastError := .ok
  mode := .master
  ownAddress := 0
  rxCapacity := 0
  clockSpeedHz := 0
  pullupEnabled := false
  enabled := false
  rxHandler := none
  rxHandlerActive := none
  txProvider := none
  maxTxLength := 0
  mb := []
  rxb := []
  txb := []
  dr := 0
  sr := 0
  txAnswer := []
  inbox := []
  out := []
  accepted := none
  history := []

end Sys2Proof.Machine
end

