-- ==== Sys2Proof/Machine/Flags.lean ====
section
/-! DEFINITION. The block's one status flag, `lastError` (R17), and its one result bit, `accepted`
(R31), with the conditions that decide the bit (R81, R83 to R86). -/

namespace Sys2Proof.Machine

/-- R161: an error is recorded in `lastError` at the point of detection; a later one overwrites it.
Recording `ok` clears the flag (decision D18). -/
def State.recordError (e : ErrorCode) (s : State) : State := { s with lastError := e }

/-- R31: the `accepted` result of a command. -/
def State.answer (b : Bool) (s : State) : State := { s with accepted := some b }

/-- R81: the acceptance condition of `INIT`.  `ownAddress <= 127` holds of every 7-bit operand. -/
def State.acceptsInit (s : State) (mode : Mode) (clock : Nat) (cap : Nat) : Bool :=
  decide (s.role = .idle) && decide (cap ≤ s.config.rxCapMax)
    && (decide (mode = .slave) || decide (clock ≤ s.config.clockMaxHz))

/-- R83, R84: the acceptance condition of `SEND_TO` and `READ_FROM`. -/
def State.acceptsTransaction (s : State) : Bool :=
  s.enabled && decide (s.mode = .master) && decide (s.role = .idle)

/-- R85, R86: the acceptance condition of the two registrations. -/
def State.acceptsRegistration (s : State) : Bool := decide (s.mode = .slave)

end Sys2Proof.Machine
end

