-- ==== Sys2Proof/Machine/Ops.lean ====
section
/-! DEFINITION. The named operations over byte stores, output list, role and controller registers;
taking an error and the one fault; entering and leaving a step. -/

namespace Sys2Proof.Machine

/-- What a meaning answers. -/
abbrev Result := Host.Outcome State Fault Refusal

/-! ## Byte stores (R40) -/

/-- The canonical form: indices strictly rising. -/
abbrev Memory.wf (m : Memory) : Prop := m.Pairwise (fun a b => a.1 < b.1)

/-- The byte at an index, if the store holds one. -/
def Memory.read : Memory → Nat → Option Byte
  | [], _ => none
  | (j, c) :: rest, i => if j = i then some c else Memory.read rest i

/-- Write one byte, keeping the indices rising. -/
def Memory.write : Memory → Nat → Byte → Memory
  | [], i, b => [(i, b)]
  | (j, c) :: rest, i, b =>
    if i < j then (i, b) :: (j, c) :: rest
    else if i = j then (i, b) :: rest
    else (j, c) :: Memory.write rest i b

/-- A byte sequence laid out from index `k` on. -/
def Memory.layout : Nat → List Byte → Memory
  | _, [] => []
  | k, b :: bs => (k, b) :: Memory.layout (k + 1) bs

/-- R46: a byte sequence as a store, in index order from 0. -/
def Memory.ofBytes (bs : List Byte) : Memory := Memory.layout 0 bs

/-- The bytes at the indices `0 .. n-1`, if the store holds them all. -/
def Memory.bytes (m : Memory) : Nat → Option (List Byte)
  | 0 => some []
  | n + 1 =>
    match Memory.bytes m n, Memory.read m n with
    | some bs, some b => some (bs ++ [b])
    | _, _ => none

/-- The store of a name. -/
def State.store (s : State) : StoreName → Memory
  | .mb => s.mb
  | .rxb => s.rxb
  | .txb => s.txb

/-- Write one byte of a store (R48: nothing else happens). -/
def State.storeByte (n : StoreName) (i : Nat) (b : Byte) (s : State) : State :=
  match n with
  | .mb => { s with mb := s.mb.write i b }
  | .rxb => { s with rxb := s.rxb.write i b }
  | .txb => { s with txb := s.txb.write i b }

/-! ## The output list (R7, R140) -/

/-- R7: append one operation to the output list. -/
def State.emit (op : Op) (s : State) : State := { s with out := s.out ++ [op] }

/-- R147: `WR_DATA(b)` puts `b` into the controller's data register. -/
def State.writeData (b : Byte) (s : State) : State := { s with dr := b, out := s.out ++ [.wrData b] }

/-- R148: `RD_DATA`; the byte it returns is `s.dr`, the environment's. -/
def State.readData (s : State) : State := s.emit .rdData

/-- R154: `CALL_TX(p)`; the sequence it returns is `s.txAnswer`, the environment's. -/
def State.callProvider (p : CallbackId) (s : State) : State := s.emit (.callTx p)

/-- R153: `CALL_RX(h, S, n)`; the handler cannot change the block's state. -/
def State.callHandler (h : CallbackId) (bytes : List Byte) (n : Nat) (s : State) : State :=
  s.emit (.callRx h bytes n)

/-! ## The terminal edge, errors and the fault -/

/-- R24: `terminate()`, the terminal edge: `role <- Idle` and nothing else. -/
def State.terminate (s : State) : State := { s with role := .idle }

/-- R160, R161: taking an error of the taxonomy: it is recorded, the operation of R160's table is
emitted, and the transaction ends.  It is an ordinary outcome with a successor state (R162). -/
def State.takeError (e : ErrorCode) (op : Op) (s : State) : State :=
  ((s.recordError e).emit op).terminate

/-- R133, R163: `raise ProtocolViolation(role, status)`: no state is written, no operation emitted, and
there is no successor. -/
def State.raiseViolation (s : State) : Result := .fault (.protocolViolation s.role s.sr)

/-! ## Cursor -/

/-- R14: the cursor moves by exactly one. -/
def State.advance (s : State) : State := { s with cursor := s.cursor + 1 }

/-! ## Entering and leaving a step -/

/-- R167 (1), (2) and R140: entering a step with the packet the outside world presents.  The output
list starts empty.  An interrupt brings the controller's status and data registers and the provider's
answer; a command brings none. -/
def State.beginStep (p : Packet) (rest : List Packet) (s : State) : State :=
  match p with
  | .interrupt status dr tx =>
    { s with inbox := rest, out := [], accepted := none, sr := status, dr := dr, txAnswer := tx }
  | .command _ _ => { s with inbox := rest, out := [], accepted := none }
  | .operation _ _ dr tx =>
    { s with inbox := rest, out := [], accepted := none, dr := dr, txAnswer := tx }

/-- R167 (3): the word to decode.  For an interrupt it is the current role in front of the status code
read at entry. -/
def State.fetch (s : State) : Packet → Word
  | .interrupt _ _ _ => .dispatch (dispatchWord s.role.code s.sr)
  | .command cop args => .command cop args
  | .operation bop args _ _ => .operation bop args

/-- What a word that is no instruction does. -/
def State.reject (s : State) : Reject → Result
  | .undefinedDispatch _ => s.raiseViolation
  | .reservedCommand cop => .refused (.reservedCommand cop)
  | .reservedOperation bop => .refused (.reservedOperation bop)
  | .illFormed mnemonic => .refused (.illFormed mnemonic)

/-- R140, R168: leaving a step; nothing is restored, and its outputs join the event history. -/
def State.endStep (s : State) : State := { s with history := s.history ++ [⟨s.out, s.accepted⟩] }

/-- A result with the step left, where there is a successor state. -/
def leave : Result → Result
  | .next s => .next s.endStep
  | .fault f => .fault f
  | .refused r => .refused r

/-- `s` with the instruction of a table word as the next input.  A dispatch word selects the role in
its upper bits, where some role has that code (R64). -/
def State.withWord (s : State) : Word → State
  | .dispatch d =>
    { s with
      role := (Role.ofCode (dispatchRoleCode d)).getD s.role
      inbox := .interrupt (dispatchStatus d) 0 [] :: s.inbox }
  | .command cop args => { s with inbox := .command cop args :: s.inbox }
  | .operation bop args => { s with inbox := .operation bop args 0 [] :: s.inbox }

end Sys2Proof.Machine
end

