-- ==== Sys2Proof/Machine/BusActions.lean ====
section
/-! DEFINITION. The operations of the bus-action encoder (spec/46_bus_actions.md), each by itself: what
the handlers of the other files do when they emit it.  The spec says what the block asks, never what
the wires do; so an operation joins the output list, and `WR_DATA` also fills the data register. -/

namespace Sys2Proof.Machine

/-- `NONE` (R141): the name of the empty list, never a member of one. -/
def execOpNone (s : State) : Result := .next s

/-- `START` (R142). -/
def execOpStart (s : State) : Result := .next (s.emit .start)

/-- `STOP` (R143). -/
def execOpStop (s : State) : Result := .next (s.emit .stop)

/-- `NEXT_ACK` (R144). -/
def execOpNextAck (s : State) : Result := .next (s.emit .nextAck)

/-- `NEXT_NACK` (R145). -/
def execOpNextNack (s : State) : Result := .next (s.emit .nextNack)

/-- `RELEASE` (R146), a token of its own, never merged with `NEXT_ACK`. -/
def execOpRelease (s : State) : Result := .next (s.emit .release)

/-- `WR_DATA(b)` (R147). -/
def execOpWrData (b : Byte) (s : State) : Result := .next (s.writeData b)

/-- `RD_DATA` (R148): the byte it returns is the data register's, which the environment chose. -/
def execOpRdData (s : State) : Result := .next s.readData

/-- `ENABLE` (R149). -/
def execOpEnable (s : State) : Result := .next (s.emit .enable)

/-- `DISABLE_BC` (R150). -/
def execOpDisableBc (s : State) : Result := .next (s.emit .disableBc)

/-- `SET_OWN_ADDR(a)` (R151). -/
def execOpSetOwnAddr (a : BusAddress) (s : State) : Result := .next (s.emit (.setOwnAddr a))

/-- `SET_CLOCK_DIV(v)` (R152). -/
def execOpSetClockDiv (clockSpeedHz : Nat) (s : State) : Result :=
  .next (s.emit (.setClockDiv clockSpeedHz))

/-- `CALL_RX(h, S, n)` (R153). -/
def execOpCallRx (h : CallbackId) (bytes : List Byte) (n : Nat) (s : State) : Result :=
  .next (s.callHandler h bytes n)

/-- `CALL_TX(p)` (R154): the sequence it returns is the environment's. -/
def execOpCallTx (p : CallbackId) (s : State) : Result := .next (s.callProvider p)

end Sys2Proof.Machine
end

