-- ==== Sys2Proof/Machine/Operands.lean ====
section
/-! DEFINITION. The operand forms of the block: the address byte (R66), the selection of a byte store
by role (R13), and the one addressing mode, post-increment through `cursor` (R55). -/

namespace Sys2Proof.Machine

/-- R66: `SLA(a, dir) = (a << 1) | dir`, the address in bits 7 to 1 and the direction in bit 0. -/
def addressByte (a : BusAddress) (dir : BitVec 1) : Byte :=
  (a.setWidth 8 <<< 1) ||| dir.setWidth 8

/-- R66: the direction bit of a write. -/
def writeDir : BitVec 1 := 0

/-- R66: the direction bit of a read. -/
def readDir : BitVec 1 := 1

/-- R13: the byte store that a role selects; in Idle none is selected. -/
def bufferOf : Role → Option StoreName
  | .idle => none
  | .masterTransmit => some .mb
  | .masterReceive => some .mb
  | .slaveReceive => some .rxb
  | .slaveTransmit => some .txb

/-- R24, R53: is the caller's storage borrowed? -/
def State.borrowed (s : State) : Bool :=
  decide (s.role = .masterTransmit) || decide (s.role = .masterReceive)

/-- R90, R91, R100, R101: send the address byte and let the bus proceed. -/
def State.sendAddress (dir : BitVec 1) (s : State) : State :=
  (s.writeData (addressByte s.peerAddress dir)).emit .nextAck

/-- R55, load-and-send: `b <- STORE[cursor]; cursor <- cursor + 1; emit WR_DATA(b)`, and then `k`.  The
index is the cursor before the increment. -/
def State.loadAndSend (n : StoreName) (s : State) (k : State → State) : Result :=
  match (s.store n).read s.cursor with
  | some b => .next (k (s.advance.writeData b))
  | none => .fault (.noByte n s.cursor)

/-- R55, the second half of receive-and-store: `STORE[cursor] <- b; cursor <- cursor + 1`, with `b` the
byte that `RD_DATA` returned.  The index is the cursor before the increment. -/
def State.storeReceived (n : StoreName) (s : State) : State := (s.storeByte n s.cursor s.dr).advance

end Sys2Proof.Machine
end

