-- ==== Sys2Proof/Machine/Common.lean ====
section
/-! DEFINITION. The common dispatches (spec/45_common_events.md), the same in every role. -/

namespace Sys2Proof.Machine

/-- `ANY.NO_INFO` (R130): `role <- Idle` and nothing else (conflict C9). -/
def execAnyNoInfo (s : State) : Result := .next s.terminate

/-- `ANY.BUS_ERROR` (R131). -/
def execAnyBusError (s : State) : Result := .next (s.takeError .busError .stop)

/-- `ANY.ARB_LOST` (R132): the bus is released with no stop condition. -/
def execAnyArbLost (s : State) : Result := .next (s.takeError .lostArbitration .release)

end Sys2Proof.Machine
end

