-- ==== Sys2Proof/Machine/Facade.lean ====
section
/-! DEFINITION. The host commands (spec/40_facade_commands.md).  A command never faults: one whose
acceptance condition fails changes no state and emits nothing (R80 (d)). -/

namespace Sys2Proof.Machine

/-- R81: what an accepted `INIT` writes, before its operations. -/
def State.configure (mode : Mode) (clock : Nat) (own : BusAddress) (cap : Nat) (pullup : Bool)
    (s : State) : State :=
  { s with
    mode := mode, clockSpeedHz := clock, ownAddress := own, rxCapacity := cap, pullupEnabled := pullup
    role := .idle, cursor := 0, length := 0, lastError := .ok, enabled := true }

/-- R81: the configuration operation of a mode. -/
def configOp (mode : Mode) (clock : Nat) (own : BusAddress) : Op :=
  match mode with
  | .slave => .setOwnAddr own
  | .master => .setClockDiv clock

/-- `INIT` (R81).  `pullupEnabled` is stored and has no operation of its own; that it is handed over inside
`ENABLE`, which carries no value here, is the model's choice among those R81 leaves (R22;
notes/assumptions/18.md, DESIGN CHOICE, unsafe). -/
def execInit (mode : Mode) (clock : Nat) (own : BusAddress) (cap : Nat) (pullup : Bool)
    (s : State) : Result :=
  if s.acceptsInit mode clock cap then
    .next (((s.configure mode clock own cap pullup).emit (configOp mode clock own)).emit .enable)
  else .next s

/-- `DISABLE` (R82): the transaction in flight, if any, is abandoned. -/
def execDisable (s : State) : Result :=
  .next { (s.emit .disableBc).terminate with enabled := false }

/-- R83, R84: the part of `SEND_TO` and `READ_FROM` that is common: bind the caller's storage, set up
the context, issue the start. -/
def State.startTransaction (role : Role) (address : BusAddress) (buffer : Memory) (length : Nat)
    (s : State) : State :=
  (State.emit .start
    { s with
      role := role, peerAddress := address, mb := buffer, cursor := 0, length := length
      lastError := .ok }).answer true

/-- `SEND_TO` (R83): `MB <- data[0 .. length-1]`. -/
def execSendTo (address : BusAddress) (data : List Byte) (length : Nat) (s : State) : Result :=
  if s.acceptsTransaction then
    .next (s.startTransaction .masterTransmit address (Memory.ofBytes (data.take length)) length)
  else .next (s.answer false)

/-- `READ_FROM` (R84): `MB <- buffer`, whose content is kept until overwritten. -/
def execReadFrom (address : BusAddress) (buffer : List Byte) (length : Nat) (s : State) : Result :=
  if s.acceptsTransaction then
    .next (s.startTransaction .masterReceive address (Memory.ofBytes buffer) length)
  else .next (s.answer false)

/-- `SET_RX_HANDLER` (R85). -/
def execSetRxHandler (h : CallbackId) (s : State) : Result :=
  if s.acceptsRegistration then .next { s with rxHandler := some h } else .next s

/-- `SET_TX_PROVIDER` (R86). -/
def execSetTxProvider (p : CallbackId) (maxLength : Nat) (s : State) : Result :=
  if s.acceptsRegistration then .next { s with txProvider := some p, maxTxLength := maxLength }
  else .next s

end Sys2Proof.Machine
end

