-- ==== Sys2Proof/Machine/MasterReceive.lean ====
section
/-! DEFINITION. The master-receive dispatches (spec/42_master_receive.md). -/

namespace Sys2Proof.Machine

/-- `MR.START` (R100, decision D9). -/
def execMrStart (s : State) : Result := .next (s.sendAddress readDir)

/-- `MR.REP_START` (R101), identical to `MR.START`. -/
def execMrRepStart (s : State) : Result := .next (s.sendAddress readDir)

/-- R102: the look-ahead acknowledge policy `mr_reply()`, on the cursor after the step's store. -/
def State.reply (s : State) : State :=
  if 1 < s.length - s.cursor then s.emit .nextAck
  else if s.length - s.cursor = 1 then s.emit .nextNack
  else (s.emit .stop).terminate

/-- R104, R105: read the data register, and store the byte while the buffer has room. -/
def State.receive (s : State) : State :=
  if s.cursor < s.length then s.readData.storeReceived .mb else s.readData

/-- `MR.SLA_ACK` (R103). -/
def execMrSlaAck (s : State) : Result := .next s.reply

/-- `MR.DATA_ACK` (R104). -/
def execMrDataAck (s : State) : Result := .next s.receive.reply

/-- `MR.DATA_NACK` (R105). -/
def execMrDataNack (s : State) : Result := .next (s.receive.emit .stop).terminate

/-- `MR.SLA_NACK` (R106): the parameter `SYMMETRIC_NACK` decides whether the error is recorded. -/
def execMrSlaNack (s : State) : Result :=
  if s.config.symmetricNack then .next (s.takeError .missingAck .stop)
  else .next (s.emit .stop).terminate

end Sys2Proof.Machine
end

