-- ==== Sys2Proof/Machine/MasterSend.lean ====
section
/-! DEFINITION. The master-send dispatches (spec/41_master_send.md). -/

namespace Sys2Proof.Machine

/-- `MT.START` (R90). -/
def execMtStart (s : State) : Result := .next (s.sendAddress writeDir)

/-- `MT.REP_START` (R91), identical to `MT.START`. -/
def execMtRepStart (s : State) : Result := .next (s.sendAddress writeDir)

/-- R92, R93: the byte-acknowledged event: the next byte, or stop and return to Idle. -/
def State.sendNext (s : State) : Result :=
  if s.cursor < s.length then s.loadAndSend .mb (State.emit .nextAck)
  else .next (s.emit .stop).terminate

/-- `MT.SLA_ACK` (R92). -/
def execMtSlaAck (s : State) : Result := s.sendNext

/-- `MT.DATA_ACK` (R93), identical to `MT.SLA_ACK`. -/
def execMtDataAck (s : State) : Result := s.sendNext

/-- `MT.SLA_NACK` (R94). -/
def execMtSlaNack (s : State) : Result := .next (s.takeError .missingAck .stop)

/-- `MT.DATA_NACK` (R95), identical to `MT.SLA_NACK`. -/
def execMtDataNack (s : State) : Result := .next (s.takeError .missingAck .stop)

end Sys2Proof.Machine
end

