-- ==== Sys2Proof/Machine/SlaveReceive.lean ====
section
/-! DEFINITION. The slave-receive dispatches (spec/43_slave_receive.md). -/

namespace Sys2Proof.Machine

/-- R110, R111: a slave-receive transaction is triggered. -/
def State.triggerReceive (s : State) : State :=
  State.emit .nextAck
    { s with
      role := .slaveReceive, cursor := 0, length := s.rxCapacity, lastError := .ok
      rxHandlerActive := s.rxHandler }

/-- `IDLE.SR_SLA_ACK` (R110). -/
def execIdleSrSlaAck (s : State) : Result := .next s.triggerReceive

/-- `IDLE.SR_GCALL_ACK` (R111), identical to `IDLE.SR_SLA_ACK`. -/
def execIdleSrGcallAck (s : State) : Result := .next s.triggerReceive

/-- R112: the data step `sr_data()`: one test, on the cursor at entry, decides store and reply. -/
def State.receiveSlave (s : State) : State :=
  if s.cursor < s.rxCapacity then (s.readData.storeReceived .rxb).emit .nextAck
  else s.readData.emit .nextNack

/-- `SR.DATA_ACK` (R113). -/
def execSrDataAck (s : State) : Result := .next s.receiveSlave

/-- `SR.DATA_NACK` (R114). -/
def execSrDataNack (s : State) : Result := .next s.receiveSlave

/-- `SR.GCALL_DATA_ACK` (R115). -/
def execSrGcallDataAck (s : State) : Result := .next s.receiveSlave

/-- `SR.GCALL_DATA_NACK` (R116). -/
def execSrGcallDataNack (s : State) : Result := .next s.receiveSlave

/-- `SR.STOP` (R117): the handler is called before the re-arm and before the terminal edge. -/
def execSrStop (s : State) : Result :=
  match s.rxHandlerActive with
  | none => .next (s.emit .nextAck).terminate
  | some h =>
    match s.rxb.bytes s.cursor with
    | some bytes => .next ((s.callHandler h bytes s.cursor).emit .nextAck).terminate
    | none => .fault (.noPrefix s.cursor)

end Sys2Proof.Machine
end

