-- ==== Sys2Proof/Machine/SlaveTransmit.lean ====
section
/-! DEFINITION. The slave-transmit dispatches (spec/44_slave_transmit.md). -/

namespace Sys2Proof.Machine

/-- R120: with acknowledge-expected while more bytes remain, without for the final one. -/
def State.announce (s : State) : State :=
  s.emit (if s.cursor < s.length then .nextAck else .nextNack)

/-- R120: the send step `st_send()`; the second test is on the cursor after the increment. -/
def State.sendSlave (s : State) : Result :=
  if s.cursor < s.length then s.loadAndSend .txb State.announce
  else .next (s.emit .nextNack)

/-- R121: ask the provider, if one is registered, for the bytes of the transaction. -/
def State.obtainBytes (s : State) : State :=
  match s.txProvider with
  | some p =>
    { s.callProvider p with
      txb := Memory.ofBytes s.txAnswer, length := min s.txAnswer.length s.maxTxLength }
  | none => { s with txb := [], length := 0 }

/-- `IDLE.ST_SLA_ACK` (R121). -/
def execIdleStSlaAck (s : State) : Result :=
  (State.obtainBytes { s with role := .slaveTransmit, lastError := .ok, cursor := 0 }).sendSlave

/-- R122, R123, R124: re-arm and return to Idle (decision D14). -/
def State.rearm (s : State) : State := (s.emit .nextAck).terminate

/-- `ST.DATA_ACK` (R122). -/
def execStDataAck (s : State) : Result :=
  if s.cursor < s.length then s.sendSlave else .next s.rearm

/-- `ST.DATA_NACK` (R123): no error is recorded (conflict C13). -/
def execStDataNack (s : State) : Result := .next s.rearm

/-- `ST.LAST_DATA` (R124), identical to `ST.DATA_NACK`. -/
def execStLastData (s : State) : Result := .next s.rearm

end Sys2Proof.Machine
end

