-- ==== Sys2Proof/Machine/Dispatch.lean ====
section
/-! DEFINITION. The dispatch of an instruction to its meaning, one arm per constructor. -/

namespace Sys2Proof.Machine

def exec (i : Instr) (s : State) : Host.Outcome State Fault Refusal :=
  match i with
  | .anyBusError => Sys2Proof.Machine.execAnyBusError s
  | .anyArbLost => Sys2Proof.Machine.execAnyArbLost s
  | .anyNoInfo => Sys2Proof.Machine.execAnyNoInfo s
  | .idleSrSlaAck => Sys2Proof.Machine.execIdleSrSlaAck s
  | .idleSrGcallAck => Sys2Proof.Machine.execIdleSrGcallAck s
  | .idleStSlaAck => Sys2Proof.Machine.execIdleStSlaAck s
  | .mtStart => Sys2Proof.Machine.execMtStart s
  | .mtRepStart => Sys2Proof.Machine.execMtRepStart s
  | .mtSlaAck => Sys2Proof.Machine.execMtSlaAck s
  | .mtSlaNack => Sys2Proof.Machine.execMtSlaNack s
  | .mtDataAck => Sys2Proof.Machine.execMtDataAck s
  | .mtDataNack => Sys2Proof.Machine.execMtDataNack s
  | .mrStart => Sys2Proof.Machine.execMrStart s
  | .mrRepStart => Sys2Proof.Machine.execMrRepStart s
  | .mrSlaAck => Sys2Proof.Machine.execMrSlaAck s
  | .mrSlaNack => Sys2Proof.Machine.execMrSlaNack s
  | .mrDataAck => Sys2Proof.Machine.execMrDataAck s
  | .mrDataNack => Sys2Proof.Machine.execMrDataNack s
  | .srDataAck => Sys2Proof.Machine.execSrDataAck s
  | .srDataNack => Sys2Proof.Machine.execSrDataNack s
  | .srGcallDataAck => Sys2Proof.Machine.execSrGcallDataAck s
  | .srGcallDataNack => Sys2Proof.Machine.execSrGcallDataNack s
  | .srStop => Sys2Proof.Machine.execSrStop s
  | .stDataAck => Sys2Proof.Machine.execStDataAck s
  | .stDataNack => Sys2Proof.Machine.execStDataNack s
  | .stLastData => Sys2Proof.Machine.execStLastData s
  | .init mode clock own cap pullup => Sys2Proof.Machine.execInit mode clock own cap pullup s
  | .disable => Sys2Proof.Machine.execDisable s
  | .sendTo address data length => Sys2Proof.Machine.execSendTo address data length s
  | .readFrom address buffer length => Sys2Proof.Machine.execReadFrom address buffer length s
  | .setRxHandler h => Sys2Proof.Machine.execSetRxHandler h s
  | .setTxProvider p maxLength => Sys2Proof.Machine.execSetTxProvider p maxLength s
  | .opNone => Sys2Proof.Machine.execOpNone s
  | .opStart => Sys2Proof.Machine.execOpStart s
  | .opStop => Sys2Proof.Machine.execOpStop s
  | .opNextAck => Sys2Proof.Machine.execOpNextAck s
  | .opNextNack => Sys2Proof.Machine.execOpNextNack s
  | .opRelease => Sys2Proof.Machine.execOpRelease s
  | .opWrData b => Sys2Proof.Machine.execOpWrData b s
  | .opRdData => Sys2Proof.Machine.execOpRdData s
  | .opEnable => Sys2Proof.Machine.execOpEnable s
  | .opDisableBc => Sys2Proof.Machine.execOpDisableBc s
  | .opSetOwnAddr a => Sys2Proof.Machine.execOpSetOwnAddr a s
  | .opSetClockDiv v => Sys2Proof.Machine.execOpSetClockDiv v s
  | .opCallRx h bytes n => Sys2Proof.Machine.execOpCallRx h bytes n s
  | .opCallTx p => Sys2Proof.Machine.execOpCallTx p s

end Sys2Proof.Machine
end

