-- ==== Sys2Proof/Machine/Step.lean ====
section
/-! DEFINITION. One step: the block takes the next input, decodes it and runs it to its end as one
indivisible transition (R50, R52, R167, R168). -/

namespace Sys2Proof.Machine

/-- One step.  With no input nothing runs, and every field keeps its value (R169, R180). -/
def step (s : State) : Host.Outcome State Fault Refusal :=
  match s.inbox with
  | [] => .next s
  | p :: rest =>
    match decode (s.beginStep p rest).config ((s.beginStep p rest).fetch p) with
    | .ok i => leave (exec i (s.beginStep p rest))
    | .error r => (s.beginStep p rest).reject r

/-- `s` with the instruction of a table word as its next input (see `tableWord`, `State.withWord`). -/
def State.withFetchWord (s : State) (nbits w : Nat) : State :=
  match tableWord nbits w with
  | some word => s.withWord word
  | none => s

end Sys2Proof.Machine
end

