-- ==== Sys2Proof/Safety.lean ====
section
/-! DEFINITION. What claims about the machine are stated in: the invariant, the families of
instructions, the role graph (R28), the output lists of R155, and runs of several steps. -/

namespace Sys2Proof.Machine

/-! ## The invariant -/

/-- The store holds a byte at every index below `n`. -/
def Memory.covers (m : Memory) (n : Nat) : Prop := ∀ i, i < n → (m.read i).isSome = true

/-- What every reachable state satisfies. -/
structure State.Inv (s : State) : Prop where
  /-- R5: a capacity that `INIT` accepts is a count. -/
  caps : s.config.rxCapMax ≤ s.config.cntMax
  /-- R16, first clause. -/
  cursor_le : s.cursor ≤ s.length
  /-- R15. -/
  length_le : s.length ≤ s.config.cntMax
  /-- R21. -/
  capacity_le : s.rxCapacity ≤ s.config.rxCapMax
  /-- R26. -/
  maxTx_le : s.maxTxLength ≤ s.config.cntMax
  /-- R22: the bound that `INIT` checks in Master mode. -/
  clock_le : s.mode = .master → s.clockSpeedHz ≤ s.config.clockMaxHz
  /-- The byte stores are in canonical form. -/
  mb_wf : s.mb.wf
  rxb_wf : s.rxb.wf
  txb_wf : s.txb.wf
  /-- R41: the valid indices of the borrowed storage are `0 .. length-1`. -/
  mb_covers : s.borrowed = true → s.mb.covers s.length
  /-- R16: `length = rxCapacity` in SlaveReceive. -/
  rx_length : s.role = .slaveReceive → s.length = s.rxCapacity
  /-- R42: the prefix that `SR.STOP` hands over is what the transaction stored. -/
  rxb_covers : s.role = .slaveReceive → s.rxb.covers s.cursor
  /-- R43: the valid indices of TXB are `0 .. length-1`. -/
  txb_covers : s.role = .slaveTransmit → s.txb.covers s.length

/-! ## Families of instructions -/

/-- Format D: the dispatches. -/
def isDispatch (i : Instr) : Bool :=
  match encode i with
  | .dispatch _ => true
  | .command _ _ => false
  | .operation _ _ => false

/-- Format C: the host commands. -/
def isCommand (i : Instr) : Bool :=
  match encode i with
  | .dispatch _ => false
  | .command _ _ => true
  | .operation _ _ => false

/-- The four START dispatches (R12). -/
def isStart (i : Instr) : Bool := i ∈ [.mtStart, .mtRepStart, .mrStart, .mrRepStart]

/-- The three slave triggers (R14). -/
def isTrigger (i : Instr) : Bool := i ∈ [.idleSrSlaAck, .idleSrGcallAck, .idleStSlaAck]

/-- The master-receive dispatches that store a byte in MB (R104, R105). -/
def storesMb (i : Instr) : Bool := i ∈ [.mrDataAck, .mrDataNack]

/-- The slave-receive dispatches that store a byte in RXB (R112). -/
def storesRxb (i : Instr) : Bool := i ∈ [.srDataAck, .srDataNack, .srGcallDataAck, .srGcallDataNack]

/-- The dispatches that send a byte of a store (R92, R93, R120). -/
def sendsByte (i : Instr) : Bool := i ∈ [.mtSlaAck, .mtDataAck, .idleStSlaAck, .stDataAck]

/-- `INIT`, with any operands. -/
def isInit : Instr → Bool
  | .init _ _ _ _ _ => true
  | _ => false

/-- `SEND_TO` or `READ_FROM`, with any operands. -/
def startsTransaction : Instr → Bool
  | .sendTo _ _ _ => true
  | .readFrom _ _ _ => true
  | _ => false

/-- `SET_RX_HANDLER`, with any operand. -/
def isSetRx : Instr → Bool
  | .setRxHandler _ => true
  | _ => false

/-- `SET_TX_PROVIDER`, with any operands. -/
def isSetTx : Instr → Bool
  | .setTxProvider _ _ => true
  | _ => false

/-- The instruction that a step decodes from a packet, if there is one. -/
def decoded (s : State) (p : Packet) (rest : List Packet) : Except Reject Instr :=
  decode (s.beginStep p rest).config ((s.beginStep p rest).fetch p)

/-- The answer with `f` applied to its next state, if it has one. -/
def mapNext (f : State → State) : Result → Result
  | .next s => .next (f s)
  | .fault r => .fault r
  | .refused r => .refused r

/-! ## The role graph -/

/-- R28: the role after an instruction, by the table's rows. -/
def roleAfter (i : Instr) (s : State) : Role :=
  match i with
  | .anyBusError | .anyArbLost | .anyNoInfo => .idle
  | .idleSrSlaAck | .idleSrGcallAck => .slaveReceive
  | .idleStSlaAck => .slaveTransmit
  | .mtStart | .mtRepStart => .masterTransmit
  | .mtSlaAck | .mtDataAck => if s.cursor < s.length then .masterTransmit else .idle
  | .mtSlaNack | .mtDataNack => .idle
  | .mrStart | .mrRepStart => .masterReceive
  | .mrSlaAck => if s.cursor < s.length then .masterReceive else .idle
  | .mrDataAck => if s.cursor + 1 < s.length then .masterReceive else .idle
  | .mrDataNack | .mrSlaNack => .idle
  | .srDataAck | .srDataNack | .srGcallDataAck | .srGcallDataNack => .slaveReceive
  | .srStop => .idle
  | .stDataAck => if s.cursor < s.length then .slaveTransmit else .idle
  | .stDataNack | .stLastData => .idle
  | .init _ _ _ _ _ => s.role
  | .disable => .idle
  | .sendTo _ _ _ => if s.acceptsTransaction then .masterTransmit else s.role
  | .readFrom _ _ _ => if s.acceptsTransaction then .masterReceive else s.role
  | .setRxHandler _ | .setTxProvider _ _ => s.role
  | .opNone | .opStart | .opStop | .opNextAck | .opNextNack | .opRelease => s.role
  | .opWrData _ | .opRdData | .opEnable | .opDisableBc | .opSetOwnAddr _ => s.role
  | .opSetClockDiv _ | .opCallRx _ _ _ | .opCallTx _ => s.role

/-- R28: there is no edge between two different non-Idle roles. -/
def roleEdge (r r' : Role) : Bool := decide (r = .idle) || decide (r' = .idle) || decide (r = r')

/-! ## The context after an instruction -/

/-- R14: the cursor after an instruction: set to 0 by `INIT`, `SEND_TO`, `READ_FROM` and the three slave
triggers, one further for each byte sent or stored, and else as it was. -/
def cursorAfter (i : Instr) (s : State) : Nat :=
  match i with
  | .mtSlaAck | .mtDataAck | .mrDataAck | .mrDataNack | .stDataAck =>
    if s.cursor < s.length then s.cursor + 1 else s.cursor
  | .srDataAck | .srDataNack | .srGcallDataAck | .srGcallDataNack =>
    if s.cursor < s.rxCapacity then s.cursor + 1 else s.cursor
  | .idleSrSlaAck | .idleSrGcallAck => 0
  | .idleStSlaAck => if s.txProvider.isSome && decide (0 < min s.txAnswer.length s.maxTxLength) then 1 else 0
  | .init mode clock _ cap _ => if s.acceptsInit mode clock cap then 0 else s.cursor
  | .sendTo _ _ _ | .readFrom _ _ _ => if s.acceptsTransaction then 0 else s.cursor
  | .anyBusError | .anyArbLost | .anyNoInfo => s.cursor
  | .mtStart | .mtRepStart | .mtSlaNack | .mtDataNack => s.cursor
  | .mrStart | .mrRepStart | .mrSlaAck | .mrSlaNack => s.cursor
  | .srStop | .stDataNack | .stLastData => s.cursor
  | .disable | .setRxHandler _ | .setTxProvider _ _ => s.cursor
  | .opNone | .opStart | .opStop | .opNextAck | .opNextNack | .opRelease => s.cursor
  | .opWrData _ | .opRdData | .opEnable | .opDisableBc | .opSetOwnAddr _ => s.cursor
  | .opSetClockDiv _ | .opCallRx _ _ _ | .opCallTx _ => s.cursor

/-- R15: the length after an instruction. -/
def lengthAfter (i : Instr) (s : State) : Nat :=
  match i with
  | .sendTo _ _ n | .readFrom _ _ n => if s.acceptsTransaction then n else s.length
  | .idleSrSlaAck | .idleSrGcallAck => s.rxCapacity
  | .idleStSlaAck => if s.txProvider.isSome then min s.txAnswer.length s.maxTxLength else 0
  | .init mode clock _ cap _ => if s.acceptsInit mode clock cap then 0 else s.length
  | _ => s.length

/-- R17: `lastError` after an instruction. -/
def errorAfter (i : Instr) (s : State) : ErrorCode :=
  match i with
  | .mtSlaNack | .mtDataNack => .missingAck
  | .mrSlaNack => if s.config.symmetricNack then .missingAck else s.lastError
  | .anyArbLost => .lostArbitration
  | .anyBusError => .busError
  | .idleSrSlaAck | .idleSrGcallAck | .idleStSlaAck => .ok
  | .init mode clock _ cap _ => if s.acceptsInit mode clock cap then .ok else s.lastError
  | .sendTo _ _ _ | .readFrom _ _ _ => if s.acceptsTransaction then .ok else s.lastError
  | _ => s.lastError

/-- R133: the status classes that a role expects; every other class is a violation. -/
def expectedClasses : Role → List StatusClass
  | .idle => [.srSlaAck, .srGcallAck, .stSlaAck, .noInfo, .busError, .arbLost]
  | .masterTransmit =>
    [.start, .repStart, .mtSlaAck, .mtSlaNack, .mtDataAck, .mtDataNack, .noInfo, .busError, .arbLost]
  | .masterReceive =>
    [.start, .repStart, .mrSlaAck, .mrSlaNack, .mrDataAck, .mrDataNack, .noInfo, .busError, .arbLost]
  | .slaveReceive =>
    [.srDataAck, .srDataNack, .srGcallDataAck, .srGcallDataNack, .srStop, .noInfo, .busError, .arbLost]
  | .slaveTransmit => [.stDataAck, .stDataNack, .stLastData, .noInfo, .busError, .arbLost]

/-! ## Output lists -/

/-- The four control operations (R155). -/
def isControl : Op → Bool
  | .stop | .nextAck | .nextNack | .release => true
  | _ => false

/-- The two data-register accesses. -/
def isDataAccess : Op → Bool
  | .wrData _ | .rdData => true
  | _ => false

/-- The two callback operations. -/
def isCallback : Op → Bool
  | .callRx _ _ _ | .callTx _ => true
  | _ => false

/-- `WR_DATA b; NEXT_ACK` for some `b`. -/
def listWrAck : List Op → Bool
  | [.wrData _, .nextAck] => true
  | _ => false

/-- `WR_DATA b; NEXT_NACK` for some `b`. -/
def listWrNack : List Op → Bool
  | [.wrData _, .nextNack] => true
  | _ => false

/-- `CALL_TX p` in front of a list that satisfies `k`. -/
def listCallTx (k : List Op → Bool) : List Op → Bool
  | .callTx _ :: rest => k rest
  | _ => false

/-- `CALL_RX h S n; NEXT_ACK` with `n` the number of bytes of `S`. -/
def listCallRx : List Op → Bool
  | [.callRx _ bytes n, .nextAck] => decide (bytes.length = n)
  | _ => false

/-- R155: the lists that the table says a dispatch or a command can produce.  The lists of the encoder's
operations presented by themselves are the model's choice, not R155's (notes/assumptions/3.md); that
`SET_CLOCK_DIV` carries `clockSpeedHz` is notes/assumptions/7.md. -/
def producible (i : Instr) (l : List Op) : Bool :=
  match i with
  | .anyNoInfo | .setRxHandler _ | .setTxProvider _ _ => l == []
  | .sendTo _ _ _ | .readFrom _ _ _ => l == [] || l == [.start]
  | .mtStart | .mtRepStart | .mrStart | .mrRepStart => listWrAck l
  | .mtSlaAck | .mtDataAck => listWrAck l || l == [.stop]
  | .stDataAck => listWrAck l || listWrNack l || l == [.nextAck]
  | .idleStSlaAck =>
    listCallTx listWrAck l || listCallTx listWrNack l || listCallTx (· == [.nextNack]) l || l == [.nextNack]
  | .mrSlaAck => l == [.nextAck] || l == [.nextNack] || l == [.stop]
  | .idleSrSlaAck | .idleSrGcallAck | .stDataNack | .stLastData => l == [.nextAck]
  | .mrDataAck => l == [.rdData, .nextAck] || l == [.rdData, .nextNack] || l == [.rdData, .stop]
  | .srDataAck | .srDataNack | .srGcallDataAck | .srGcallDataNack =>
    l == [.rdData, .nextAck] || l == [.rdData, .nextNack]
  | .mrDataNack => l == [.rdData, .stop]
  | .srStop => listCallRx l || l == [.nextAck]
  | .mtSlaNack | .mtDataNack | .mrSlaNack | .anyBusError => l == [.stop]
  | .anyArbLost => l == [.release]
  | .init .slave _ own _ _ => l == [] || l == [.setOwnAddr own, .enable]
  | .init .master clock _ _ _ => l == [] || l == [.setClockDiv clock, .enable]
  | .disable => l == [.disableBc]
  | .opNone => l == []
  | .opStart => l == [.start]
  | .opStop => l == [.stop]
  | .opNextAck => l == [.nextAck]
  | .opNextNack => l == [.nextNack]
  | .opRelease => l == [.release]
  | .opWrData b => l == [.wrData b]
  | .opRdData => l == [.rdData]
  | .opEnable => l == [.enable]
  | .opDisableBc => l == [.disableBc]
  | .opSetOwnAddr a => l == [.setOwnAddr a]
  | .opSetClockDiv v => l == [.setClockDiv v]
  | .opCallRx h bytes n => l == [.callRx h bytes n]
  | .opCallTx p => l == [.callTx p]

/-! ## Runs -/

/-- `n` steps, stopping at the first fault or refusal. -/
def runSteps : Nat → State → Result
  | 0, s => .next s
  | n + 1, s =>
    match step s with
    | .next t => runSteps n t
    | .fault r => .fault r
    | .refused r => .refused r

/-- The operations of the last `n` completed steps of a history, in order. -/
def opsSince (old : List StepRecord) (t : State) : List Op :=
  (t.history.drop old.length).flatMap (·.ops)

/-- A bus-phase interrupt that brings a status code and no answers. -/
def event (status : BitVec 8) : Packet := .interrupt status 0 []

/-- A bus-phase interrupt that brings a received byte. -/
def eventDr (status : BitVec 8) (b : Byte) : Packet := .interrupt status b []

end Sys2Proof.Machine
end

