-- ==== Sys2Proof/Certificates/Slice0/Obligations.lean ====
section
/-! DEFINITION. The statements about the machine, for the provers.  Each docstring names the rule of spec/
it formalises; where a statement rests on one of the spec's own decisions (spec/92_eei_decisions.md) or
on a choice of the model (notes/assumptions/), it says so.  A statement over all instructions covers also the encoder
operations presented by themselves, which are the model's choice (notes/assumptions/3.md). -/

open Sys2Proof Sys2Proof.Machine

/-! ## Encoding -/

/-- Decoding the encoded word of a well-formed instruction gives the instruction back, with every operand
at every value.  The numbers are the spec's own (decisions D1, D2, D4, D5, D6). -/
def Obligations.DecodeInvertsEncode : Prop :=
  ∀ i : Instr, wellFormed Config.standard i = true → decode Config.standard (encode i) = .ok i

/-- R65, R68, R69: on every word of each format the decoder reads exactly the row of the opcode table
that the word matches, and no word matches two rows.  The numbers are decisions D1, D2, D4, D5. -/
def Obligations.DecoderReadsTheOpcodeTable : Prop :=
  (∀ d : BitVec 11,
    ((decodeDispatch standardStatusTable d).map Instr.mnemonic).toList = matchingRows dispatchRows d.toNat) ∧
  (∀ (cop : BitVec 3) (args : CommandArgs),
    ((decodeCommand cop args).map Instr.mnemonic).toList = matchingRows commandRows cop.toNat) ∧
  (∀ (bop : BitVec 4) (args : OpArgs),
    ((decodeOperation bop args).map Instr.mnemonic).toList = matchingRows operationRows bop.toNat)

/-- One word of each family, written out from the spec's encoding of it, decodes to the instruction it
stands for (the vectors V-EN-10 to V-EN-18 and R68, R69). -/
def Obligations.SampleWordsDecode : Prop :=
  decode Config.standard (.dispatch 0x128) = .ok .mtDataAck ∧
  decode Config.standard (.dispatch 0x208) = .ok .mrStart ∧
  decode Config.standard (.dispatch 0x060) = .ok .idleSrSlaAck ∧
  decode Config.standard (.dispatch 0x3A0) = .ok .srStop ∧
  decode Config.standard (.dispatch 0x4C8) = .ok .stLastData ∧
  decode Config.standard (.dispatch 0x438) = .ok .anyArbLost ∧
  decode Config.standard (.command 5 { callback := 1, maxLength := 4 }) = .ok (.setTxProvider 1 4) ∧
  decode Config.standard (.operation 10 { arg := 0x22 }) = .ok (.opSetOwnAddr 0x22)

/-- R64: the dispatch word is the role in front of the status code, and nothing else of the state takes
part in choosing the handler.  The format of the word is decision D6. -/
def Obligations.HandlerDependsOnRoleAndStatusOnly : Prop :=
  (∀ (r : BitVec 3) (c : BitVec 8),
    dispatchRoleCode (dispatchWord r c) = r ∧ dispatchStatus (dispatchWord r c) = c) ∧
  (∀ (s t : State) (c : BitVec 8) (b b' : Byte) (tx tx' : List Byte) (rest rest' : List Packet),
    s.role = t.role → s.config = t.config →
      decoded s (.interrupt c b tx) rest = decoded t (.interrupt c b' tx') rest')

/-- R133: for every table of status codes, a (role, status) pair has a handler exactly when its class is
one the role expects, by R133's table.  That the rest are violations is decision D7. -/
def Obligations.DefinedDispatchesAreTheExpectedOnes : Prop :=
  ∀ (table : List (BitVec 8 × StatusClass)) (r : Role) (c : BitVec 8),
    (decodeDispatch table (dispatchWord r.code c)).isSome = true ↔ statusDecode table c ∈ expectedClasses r

/-! ## The step -/

/-- R167, R168: a step takes the next input, starts an empty output list, decodes the word (for an
interrupt the current role in front of the status code) and runs the decoded instruction; its outputs
join the event history.  How inputs are held is the model's own (notes/assumptions/1.md), and so are the third clause,
an encoder operation presented by itself (notes/assumptions/3.md), and the latching of the status code, the data byte
and the provider's answer in `sr`, `dr` and `txAnswer` (notes/assumptions/12.md and 13.md). -/
def Obligations.StepRunsTheDecodedInstruction : Prop :=
  (∀ (s : State) (c : BitVec 8) (b : Byte) (tx : List Byte) (rest : List Packet) (i : Instr),
    s.inbox = .interrupt c b tx :: rest →
    decode s.config (.dispatch (dispatchWord s.role.code c)) = .ok i →
    step s =
      match exec i { s with inbox := rest, out := [], accepted := none, sr := c, dr := b, txAnswer := tx } with
      | .next t => .next { t with history := t.history ++ [⟨t.out, t.accepted⟩] }
      | .fault f => .fault f
      | .refused r => .refused r) ∧
  (∀ (s : State) (cop : BitVec 3) (args : CommandArgs) (rest : List Packet) (i : Instr),
    s.inbox = .command cop args :: rest →
    decode s.config (.command cop args) = .ok i →
    step s =
      match exec i { s with inbox := rest, out := [], accepted := none } with
      | .next t => .next { t with history := t.history ++ [⟨t.out, t.accepted⟩] }
      | .fault f => .fault f
      | .refused r => .refused r) ∧
  (∀ (s : State) (bop : BitVec 4) (args : OpArgs) (b : Byte) (tx : List Byte) (rest : List Packet) (i : Instr),
    s.inbox = .operation bop args b tx :: rest →
    decode s.config (.operation bop args) = .ok i →
    step s =
      match exec i { s with inbox := rest, out := [], accepted := none, dr := b, txAnswer := tx } with
      | .next t => .next { t with history := t.history ++ [⟨t.out, t.accepted⟩] }
      | .fault f => .fault f
      | .refused r => .refused r)

/-- R169: with no further input nothing runs, for ever; of the commands only `DISABLE` takes the block out
of a non-Idle role. -/
def Obligations.OnlyDisableFreesAStuckTransaction : Prop :=
  (∀ (s : State) (n : Nat), s.inbox = [] → runSteps n s = .next s) ∧
  (∀ (s : State) (cop : BitVec 3) (args : CommandArgs) (rest : List Packet) (i : Instr),
    s.inbox = .command cop args :: rest → decoded s (.command cop args) rest = .ok i → s.role ≠ .idle →
      ∃ t, step s = .next t ∧ (i ≠ .disable → t.role = s.role) ∧ (i = .disable → t.role = .idle))

/-- R133, R163: an interrupt faults with `ProtocolViolation`, carrying the role and the status code, exactly
when no handler matches; no other input does.  The fault is decision D7. -/
def Obligations.UndefinedDispatchesAndNoOthersViolate : Prop :=
  (∀ (s : State) (c : BitVec 8) (b : Byte) (tx : List Byte) (rest : List Packet),
    s.inbox = .interrupt c b tx :: rest →
      (decodeDispatch s.config.statusTable (dispatchWord s.role.code c) = none ↔
        step s = .fault (.protocolViolation s.role c))) ∧
  (∀ (s : State) (r : Role) (c : BitVec 8), step s = .fault (.protocolViolation r c) →
    r = s.role ∧ ∃ b tx rest, s.inbox = .interrupt c b tx :: rest)

/-- Reserved command opcodes and reserved operations are refused by name, and so is a command whose operands are not of
the types R68 gives them.  R70 (c), (d) say only that there is no such command and that no rule emits such an operation.
All three refusals are the model's choice (notes/assumptions/19.md for the reserved codes, 5.md for the operands), and so
is it that the code of an operation can be presented by itself (notes/assumptions/3.md). -/
def Obligations.ReservedAndIllFormedInputsAreRefused : Prop :=
  (∀ (s : State) (cop : BitVec 3) (args : CommandArgs) (rest : List Packet),
    s.inbox = .command cop args :: rest → 6 ≤ cop.toNat → step s = .refused (.reservedCommand cop)) ∧
  (∀ (s : State) (bop : BitVec 4) (args : OpArgs) (b : Byte) (tx : List Byte) (rest : List Packet),
    s.inbox = .operation bop args b tx :: rest → 14 ≤ bop.toNat → step s = .refused (.reservedOperation bop)) ∧
  (∀ (s : State) (cop : BitVec 3) (args : CommandArgs) (rest : List Packet) (i : Instr),
    s.inbox = .command cop args :: rest → decodeCommand cop args = some i → wellFormed s.config i = false →
      step s = .refused (.illFormed i.mnemonic))

/-! ## Invariants -/

/-- R9, R16, R21, R41 to R43: every step, on every input, keeps the invariant.  It rests on decisions D12,
D13, D15 and D20, which guard the stores and the configuration. -/
def Obligations.StepKeepsInvariant : Prop :=
  ∀ s t : State, s.Inv → step s = .next t → t.Inv

/-- R30, R180: the state after reset meets the invariant, for all parameters in which a capacity that `INIT`
accepts is a count. -/
def Obligations.ResetMeetsInvariant : Prop :=
  State.reset.Inv ∧
  ∀ cfg : Config, cfg.rxCapMax ≤ cfg.cntMax → ({ State.reset with config := cfg } : State).Inv

/-- R16: `cursor <= length` holds after every step of a state in which it holds (and in which
`length = rxCapacity` while in SlaveReceive, which every step keeps too), and it holds at reset. -/
def Obligations.CursorNeverPassesLength : Prop :=
  (State.reset.cursor ≤ State.reset.length ∧ State.reset.role ≠ .slaveReceive) ∧
  ∀ s t : State, s.cursor ≤ s.length → (s.role = .slaveReceive → s.length = s.rxCapacity) →
    step s = .next t → t.cursor ≤ t.length ∧ (t.role = .slaveReceive → t.length = t.rxCapacity)

/-- R41, R42, R43, R80 (d), R133: from a state that meets the invariant, an input that decodes runs to a next
state, an interrupt with no handler is the one fault, and only a command or an encoder input can be
refused: no access to a byte store is ever out of range.  The fault is decision D7; that encoder operations can be
presented, and that reserved opcodes and ill-formed operands are refused, is the model's choice
(notes/assumptions/3.md, 19.md and 5.md). -/
def Obligations.EveryDecodedInputCompletes : Prop :=
  (∀ (s : State) (p : Packet) (rest : List Packet) (i : Instr),
    s.Inv → s.inbox = p :: rest → decoded s p rest = .ok i → ∃ t, step s = .next t) ∧
  (∀ (s : State) (f : Fault), s.Inv → step s = .fault f →
    ∃ c b tx rest, s.inbox = .interrupt c b tx :: rest ∧ f = .protocolViolation s.role c) ∧
  (∀ (s : State) (r : Refusal), step s = .refused r →
    ∃ p rest, s.inbox = p :: rest ∧ ∀ c b tx, p ≠ .interrupt c b tx)

/-- R28: the role after every step is the one its table gives for the decoded instruction, and there is no
edge between two different non-Idle roles. -/
def Obligations.RoleFollowsTheGraph : Prop :=
  ∀ (s t : State) (p : Packet) (rest : List Packet) (i : Instr),
    s.inbox = p :: rest → decoded s p rest = .ok i → step s = .next t →
      t.role = roleAfter i s ∧ roleEdge s.role t.role = true

/-- R5, R140: no step writes the parameters; a step with input consumes exactly that input and adds exactly
one record, its outputs, to the history.  The record is the model's own (notes/assumptions/1.md). -/
def Obligations.StepRecordsItsOutputs : Prop :=
  ∀ s t : State, step s = .next t →
    t.config = s.config ∧ t.inbox = s.inbox.tail ∧
    (s.inbox ≠ [] → t.history = s.history ++ [⟨t.out, t.accepted⟩]) ∧
    (s.inbox = [] → t = s)

/-! ## Writers, readers and frames over all instructions -/

/-- R14, R15: the cursor and the length after every step, and their range. -/
def Obligations.CursorAndLengthWriters : Prop :=
  ∀ (s t : State) (p : Packet) (rest : List Packet) (i : Instr),
    s.Inv → s.inbox = p :: rest → decoded s p rest = .ok i → step s = .next t →
      t.cursor = cursorAfter i (s.beginStep p rest) ∧ t.length = lengthAfter i (s.beginStep p rest) ∧
      t.cursor ≤ t.config.cntMax ∧ t.length ≤ t.config.cntMax

/-- R12: `peerAddress` is written only by `SEND_TO` and `READ_FROM` and read only by the four START dispatches,
which combine it with a direction bit. -/
def Obligations.PeerAddressWritersAndReaders : Prop :=
  (∀ (i : Instr) (s t : State), startsTransaction i = false → exec i s = .next t →
    t.peerAddress = s.peerAddress) ∧
  (∀ (i : Instr) (s : State) (a : BusAddress), startsTransaction i = false → isStart i = false →
    exec i { s with peerAddress := a } = mapNext (fun t => { t with peerAddress := a }) (exec i s)) ∧
  (∀ (i : Instr) (s : State), isStart i = true →
    ∃ (t : State) (dir : BitVec 1), exec i s = .next t ∧
      t.out = s.out ++ [.wrData (addressByte s.peerAddress dir), .nextAck]) ∧
  (∀ (i : Instr) (s : State) (a : BusAddress), startsTransaction i = true →
    exec i { s with peerAddress := a } =
      mapNext (fun t => if s.acceptsTransaction then t else { t with peerAddress := a }) (exec i s))

/-- R17: the writers of `lastError`, with the value each writes, and that no instruction reads it: another
value beforehand changes nothing else.  When the flag is cleared is decision D18, the master-receive
writer decision D8. -/
def Obligations.LastErrorWritersAndNoReader : Prop :=
  (∀ (i : Instr) (s t : State), exec i s = .next t → t.lastError = errorAfter i s) ∧
  (∀ (i : Instr) (s : State) (e : ErrorCode),
    exec i { s with lastError := e } =
      mapNext (fun t => { t with lastError := errorAfter i { s with lastError := e } }) (exec i s))

/-- R19 to R23: only `INIT` writes the configuration registers (`DISABLE` writes `enabled` too), and no dispatch reads
`mode`, `ownAddress`, `clockSpeedHz`, `pullupEnabled` or `enabled`; `rxCapacity`, which the slave-receive dispatches
read, is left out of the second clause.  The register `enabled` is decision D19. -/
def Obligations.ConfigurationWritersAndReaders : Prop :=
  (∀ (i : Instr) (s t : State), isInit i = false → exec i s = .next t →
    t.mode = s.mode ∧ t.ownAddress = s.ownAddress ∧ t.rxCapacity = s.rxCapacity ∧
    t.clockSpeedHz = s.clockSpeedHz ∧ t.pullupEnabled = s.pullupEnabled ∧
    (i ≠ .disable → t.enabled = s.enabled)) ∧
  (∀ (i : Instr) (s : State) (m : Mode) (own : BusAddress) (clock : Nat) (pullup on : Bool),
    isDispatch i = true →
    exec i { s with mode := m, ownAddress := own, clockSpeedHz := clock, pullupEnabled := pullup, enabled := on } =
      mapNext (fun t => { t with mode := m, ownAddress := own, clockSpeedHz := clock,
                                 pullupEnabled := pullup, enabled := on }) (exec i s))

/-- R29: what commands write and what PSM steps write.  Commands leave RXB, TXB and the active handler alone;
PSM steps leave the peer address, the configuration registers and the registrations alone, and MB too but
in the two master-receive data dispatches. -/
def Obligations.CommandsAndStepsWriteTheirOwnFields : Prop :=
  (∀ (i : Instr) (s t : State), isCommand i = true → exec i s = .next t →
    t.rxb = s.rxb ∧ t.txb = s.txb ∧ t.rxHandlerActive = s.rxHandlerActive) ∧
  (∀ (i : Instr) (s t : State), isDispatch i = true → exec i s = .next t →
    t.peerAddress = s.peerAddress ∧ t.mode = s.mode ∧ t.ownAddress = s.ownAddress ∧
    t.rxCapacity = s.rxCapacity ∧ t.clockSpeedHz = s.clockSpeedHz ∧ t.pullupEnabled = s.pullupEnabled ∧
    t.enabled = s.enabled ∧ t.rxHandler = s.rxHandler ∧ t.txProvider = s.txProvider ∧
    t.maxTxLength = s.maxTxLength ∧ (storesMb i = false → t.mb = s.mb))

/-- R48, R55: every byte of every store, after any instruction.  A store instruction changes no byte but the one
at the cursor it found, which it sets to the byte of the data register when there is room; MB is otherwise
rebound only by the two commands that start a transaction, RXB never, and TXB only by its trigger. -/
def Obligations.StoresChangeOnlyAtTheCursor : Prop :=
  ∀ (i : Instr) (s t : State), exec i s = .next t →
    (storesMb i = true → (∀ a, a ≠ s.cursor → t.mb.read a = s.mb.read a) ∧
      t.mb.read s.cursor = if s.cursor < s.length then some s.dr else s.mb.read s.cursor) ∧
    (storesMb i = false → startsTransaction i = false → ∀ a, t.mb.read a = s.mb.read a) ∧
    (storesRxb i = true → (∀ a, a ≠ s.cursor → t.rxb.read a = s.rxb.read a) ∧
      t.rxb.read s.cursor = if s.cursor < s.rxCapacity then some s.dr else s.rxb.read s.cursor) ∧
    (storesRxb i = false → ∀ a, t.rxb.read a = s.rxb.read a) ∧
    (i ≠ .idleStSlaAck → ∀ a, t.txb.read a = s.txb.read a)

/-- R25, R26: the registrations are written only by their commands, the provider and its maximum together, and
the active handler only by the two slave-receive triggers, as a copy of `rxHandler` (decision D17). -/
def Obligations.RegistrationWriters : Prop :=
  (∀ (i : Instr) (s t : State), exec i s = .next t →
    (isSetRx i = false → t.rxHandler = s.rxHandler) ∧
    (isSetTx i = false → t.txProvider = s.txProvider ∧ t.maxTxLength = s.maxTxLength) ∧
    t.rxHandlerActive = if i = .idleSrSlaAck ∨ i = .idleSrGcallAck then s.rxHandler else s.rxHandlerActive) ∧
  (∀ (i : Instr) (s : State) (q : Option CallbackId) (m : Nat), isSetTx i = false → i ≠ .idleStSlaAck →
    exec i { s with txProvider := q, maxTxLength := m } =
      mapNext (fun t => { t with txProvider := q, maxTxLength := m }) (exec i s))

/-- R54: a registration takes effect on the next triggered transaction.  In the roles of a slave transaction no
dispatch reads the registrations, so a replacement changes neither what the transaction in flight does nor
the handler it calls; the next trigger uses the replacement.  The copy of the handler taken at the trigger is decision
D17, acceptance in Slave mode decision D21, the bound on the provider's answer decision D15. -/
def Obligations.ReplacedRegistrationsWaitForTheNextTrigger : Prop :=
  (∀ (i : Instr) (s : State) (h q : Option CallbackId) (m : Nat), isDispatch i = true → isTrigger i = false →
    exec i { s with rxHandler := h, txProvider := q, maxTxLength := m } =
      mapNext (fun t => { t with rxHandler := h, txProvider := q, maxTxLength := m }) (exec i s)) ∧
  (∀ (s : State) (h : CallbackId), s.mode = .slave →
    exec (.setRxHandler h) s = .next { s with rxHandler := some h }) ∧
  (∀ (s : State) (q : CallbackId) (m : Nat), s.mode = .slave →
    exec (.setTxProvider q m) s = .next { s with txProvider := some q, maxTxLength := m }) ∧
  (∀ (s t : State) (i : Instr), i = .idleSrSlaAck ∨ i = .idleSrGcallAck → exec i s = .next t →
    t.rxHandlerActive = s.rxHandler) ∧
  (∀ (s t : State) (q : CallbackId), s.txProvider = some q → exec .idleStSlaAck s = .next t →
    .callTx q ∈ t.out ∧ t.length = min s.txAnswer.length s.maxTxLength)

/-! ## Output lists -/

/-- R155: a dispatch or a command appends to the output list one of the lists the table gives it.  The order within a
list is decision D30.  An encoder operation presented by itself appends just itself, or nothing for `NONE`: these lists
are not in R155's table, they are the model's choice (notes/assumptions/3.md), and so is it that `SET_CLOCK_DIV`
carries `clockSpeedHz` (notes/assumptions/7.md). -/
def Obligations.OutputListsAreThoseOfTheTable : Prop :=
  ∀ (i : Instr) (s t : State), exec i s = .next t →
    ∃ ops, t.out = s.out ++ ops ∧ producible i ops = true

/-- R155 and R96 (c), R107 (c), R118 (d), R125 (d): in the list of a bus-phase interrupt there is at most one
data-register access and at most one callback, exactly one control operation but for `ANY.NO_INFO`, which has
none, and the control operation is last (decision D30). -/
def Obligations.InterruptListsEndInOneControlOperation : Prop :=
  ∀ (s t : State) (c : BitVec 8) (b : Byte) (tx : List Byte) (rest : List Packet) (i : Instr),
    s.inbox = .interrupt c b tx :: rest → decoded s (.interrupt c b tx) rest = .ok i → step s = .next t →
      t.out.countP isDataAccess ≤ 1 ∧ t.out.countP isCallback ≤ 1 ∧
      (i = .anyNoInfo → t.out = []) ∧
      (i ≠ .anyNoInfo → t.out.countP isControl = 1 ∧ ∃ l op, t.out = l ++ [op] ∧ isControl op = true)

/-- R142: `START` (`bop = 1`) is emitted only by an accepted `SEND_TO` or `READ_FROM`, only from Idle, never by a PSM
step. -/
def Obligations.StartComesOnlyFromAcceptedCommands : Prop :=
  Op.start.encode.1 = 1 ∧
  ∀ (s t : State) (p : Packet) (rest : List Packet) (i : Instr),
    s.inbox = p :: rest → p.isExternal = true → decoded s p rest = .ok i → step s = .next t →
      (.start ∈ t.out ↔ startsTransaction i = true ∧ t.accepted = some true) ∧
      (.start ∈ t.out → s.role = .idle ∧ t.out = [.start] ∧ ∀ c b tx, p ≠ .interrupt c b tx)

/-- R143: `STOP` (`bop = 2`) is emitted by PSM steps only, always together with `role <- Idle`, at most once per step;
not by `DISABLE`, `ANY.ARB_LOST`, `ANY.NO_INFO` or any slave dispatch.  With the role Idle afterwards no transaction
is left in which a second `STOP` could be emitted: from Idle only `ANY.BUS_ERROR` emits one. -/
def Obligations.StopEndsAMasterTransaction : Prop :=
  Op.stop.encode.1 = 2 ∧
  ∀ (s t : State) (p : Packet) (rest : List Packet) (i : Instr),
    s.inbox = p :: rest → p.isExternal = true → decoded s p rest = .ok i → step s = .next t →
    .stop ∈ t.out →
      (∃ c b tx, p = .interrupt c b tx) ∧ t.role = .idle ∧ t.out.count .stop = 1 ∧
      i ∈ [.mtSlaAck, .mtDataAck, .mtSlaNack, .mtDataNack, .mrSlaAck, .mrDataAck, .mrDataNack, .mrSlaNack,
        Instr.anyBusError] ∧
      (s.role = .idle → i = .anyBusError)

/-- R147: `WR_DATA b` (`bop = 6`, `arg = b`) places `b` in the data register and is followed in its list by `NEXT_ACK`
or `NEXT_NACK`; the byte is an address byte, or the byte of MB or TXB at the cursor before the step's increment.
What was written is never read back: the next interrupt brings the controller's own value. -/
def Obligations.WrittenBytesAreAddressOrBufferBytes : Prop :=
  (∀ b : Byte, (Op.wrData b).encode = (6, { arg := b })) ∧
  (∀ (s t : State) (p : Packet) (rest : List Packet) (i : Instr) (b : Byte),
    s.inbox = p :: rest → p.isExternal = true → decoded s p rest = .ok i → step s = .next t →
    .wrData b ∈ t.out →
      t.dr = b ∧
      (∃ l op, t.out = l ++ [.wrData b, op] ∧ (op = .nextAck ∨ op = .nextNack)) ∧
      ((∃ dir, b = addressByte s.peerAddress dir) ∨
        ∃ k, t.cursor = k + 1 ∧ (t.mb.read k = some b ∨ t.txb.read k = some b))) ∧
  (∀ (s : State) (c : BitVec 8) (b b' : Byte) (tx : List Byte) (rest : List Packet),
    s.inbox = .interrupt c b tx :: rest → step { s with dr := b' } = step s)

/-- R149, R150: `ENABLE` (`bop = 8`) is emitted only by an accepted `INIT`, last in its list, and `DISABLE_BC`
(`bop = 9`) only by `DISABLE`. -/
def Obligations.EnableAndDisableOperations : Prop :=
  Op.enable.encode.1 = 8 ∧ Op.disableBc.encode.1 = 9 ∧
  ∀ (s t : State) (p : Packet) (rest : List Packet) (i : Instr),
    s.inbox = p :: rest → p.isExternal = true → decoded s p rest = .ok i → step s = .next t →
      (.enable ∈ t.out → t.enabled = true ∧ (∃ l, t.out = l ++ [.enable]) ∧
        ∃ mode clock own cap pullup, i = .init mode clock own cap pullup ∧ s.acceptsInit mode clock cap = true) ∧
      (.disableBc ∈ t.out ↔ i = .disable)

/-- R141: `NONE` (`bop = 0`) names the empty list and is never a member of one: no operation of a list has its code, and
the dispatch it stands for, `ANY.NO_INFO`, emits nothing (decision D24).  That `NONE` can be presented by itself, and
then does nothing, is the model's choice (notes/assumptions/3.md). -/
def Obligations.NoneIsNeverEmitted : Prop :=
  encode .opNone = .operation 0 {} ∧ (∀ op : Op, op.encode.1 ≠ 0) ∧ (∀ s : State, exec .opNone s = .next s) ∧
  (∀ s : State, ∃ t, exec .anyNoInfo s = .next t ∧ t.out = s.out)

/-! ## Errors -/

/-- R162: each error is recoverable.  The dispatch that records it has a next state, in Idle; it neither retries
nor calls a callback; and from there an enabled master accepts a new transaction. -/
def Obligations.RecordedErrorsAreRecoverable : Prop :=
  ∀ (i : Instr) (s : State),
    i ∈ [.mtSlaNack, .mtDataNack, .mrSlaNack, .anyArbLost, Instr.anyBusError] →
    ∃ t op, exec i s = .next t ∧ t.role = .idle ∧ t.out = s.out ++ [op] ∧ isControl op = true ∧
      (t.enabled = true → t.mode = .master → ∀ (a : BusAddress) (bytes : List Byte) (n : Nat),
        (∃ u, exec (.sendTo a bytes n) t = .next u ∧ u.accepted = some true ∧ u.role = .masterTransmit) ∧
        (∃ u, exec (.readFrom a bytes n) t = .next u ∧ u.accepted = some true ∧ u.role = .masterReceive))

/-! ## Host commands -/

/-- R185: `INIT` while a transaction is in flight is refused: it changes nothing. -/
def Obligations.InitInFlightIsRejected : Prop :=
  ∀ (s : State) (mode : Mode) (clock : Nat) (own : BusAddress) (cap : Nat) (pullup : Bool),
    s.role ≠ .idle → exec (.init mode clock own cap pullup) s = .next s

/-- R189: `SEND_TO` and `READ_FROM` issued while busy, disabled or in Slave mode are dropped with no state change;
the result says so. -/
def Obligations.BusyCallsAreDropped : Prop :=
  ∀ (s : State) (a : BusAddress) (bytes : List Byte) (n : Nat),
    s.role ≠ .idle ∨ s.enabled = false ∨ s.mode = .slave →
      exec (.sendTo a bytes n) s = .next { s with accepted := some false } ∧
      exec (.readFrom a bytes n) s = .next { s with accepted := some false }

/-- R81: what an accepted `INIT` writes and emits in each mode, and that one outside the ranges changes nothing.  The
acceptance condition and the list of writes are decision D20; that `SET_CLOCK_DIV` carries `clockSpeedHz` is
allowed by R152 (notes/assumptions/7.md); that `ENABLE` stands for the hand-over of `pullupEnabled` and carries no value
is the model's choice (notes/assumptions/18.md). -/
def Obligations.InitConfigures : Prop :=
  (∀ (s : State) (clock : Nat) (own : BusAddress) (cap : Nat) (pullup : Bool),
    s.role = .idle → cap ≤ s.config.rxCapMax →
    exec (.init .slave clock own cap pullup) s = .next
      { s with
        mode := .slave, clockSpeedHz := clock, ownAddress := own, rxCapacity := cap, pullupEnabled := pullup
        cursor := 0, length := 0, lastError := .ok, enabled := true
        out := s.out ++ [.setOwnAddr own, .enable] }) ∧
  (∀ (s : State) (clock : Nat) (own : BusAddress) (cap : Nat) (pullup : Bool),
    s.role = .idle → cap ≤ s.config.rxCapMax → clock ≤ s.config.clockMaxHz →
    exec (.init .master clock own cap pullup) s = .next
      { s with
        mode := .master, clockSpeedHz := clock, ownAddress := own, rxCapacity := cap, pullupEnabled := pullup
        cursor := 0, length := 0, lastError := .ok, enabled := true
        out := s.out ++ [.setClockDiv clock, .enable] }) ∧
  (∀ (s : State) (mode : Mode) (clock : Nat) (own : BusAddress) (cap : Nat) (pullup : Bool),
    s.config.rxCapMax < cap ∨ (mode = .master ∧ s.config.clockMaxHz < clock) →
    exec (.init mode clock own cap pullup) s = .next s)

/-- R82, R186: `DISABLE` deactivates the controller and abandons a transaction in flight: no `STOP`, no callback, and
every other field keeps its value.  What it does to the state is decision D19. -/
def Obligations.DisableAbandonsTheTransaction : Prop :=
  ∀ s : State, exec .disable s = .next { s with role := .idle, enabled := false, out := s.out ++ [.disableBc] }

/-- R83: an accepted `SEND_TO` sets up the context, binds the caller's bytes and issues the start.  The acceptance
condition is decisions D19 and D21, clearing the error decision D18, the result bit decision D22. -/
def Obligations.SendToStartsATransaction : Prop :=
  ∀ (s : State) (a : BusAddress) (data : List Byte) (n : Nat),
    s.enabled = true → s.mode = .master → s.role = .idle →
    exec (.sendTo a data n) s = .next
      { s with
        role := .masterTransmit, peerAddress := a, mb := Memory.ofBytes (data.take n), cursor := 0, length := n
        lastError := .ok, out := s.out ++ [.start], accepted := some true }

/-- R84: an accepted `READ_FROM` sets up the context, binds the caller's buffer with its content and issues the start
(decisions D18, D19, D21, D22). -/
def Obligations.ReadFromStartsATransaction : Prop :=
  ∀ (s : State) (a : BusAddress) (buffer : List Byte) (n : Nat),
    s.enabled = true → s.mode = .master → s.role = .idle →
    exec (.readFrom a buffer n) s = .next
      { s with
        role := .masterReceive, peerAddress := a, mb := Memory.ofBytes buffer, cursor := 0, length := n
        lastError := .ok, out := s.out ++ [.start], accepted := some true }

/-- R85, R86: the registrations replace the stored capability in Slave mode, in any role and enabled or not, and are
refused in Master mode (decision D21). -/
def Obligations.RegistrationsReplaceInSlaveMode : Prop :=
  ∀ (s : State) (h q : CallbackId) (m : Nat),
    (s.mode = .slave →
      exec (.setRxHandler h) s = .next { s with rxHandler := some h } ∧
      exec (.setTxProvider q m) s = .next { s with txProvider := some q, maxTxLength := m }) ∧
    (s.mode = .master → exec (.setRxHandler h) s = .next s ∧ exec (.setTxProvider q m) s = .next s)

/-! ## Master-send and master-receive -/

/-- R66: the address byte has the address in bits 7 to 1 and the direction in bit 0, 0 in MasterTransmit and 1 in
MasterReceive; `0x50` gives `0xA0` for a write and `0xA1` for a read. -/
def Obligations.AddressByteLayout : Prop :=
  (∀ (a : BusAddress) (dir : BitVec 1),
    (addressByte a dir).extractLsb' 1 7 = a ∧ (addressByte a dir).extractLsb' 0 1 = dir ∧
    (addressByte a dir).toNat = 2 * a.toNat + dir.toNat) ∧
  addressByte 0x50 0 = 0xA0 ∧ addressByte 0x50 1 = 0xA1 ∧
  (∀ (s t : State) (i : Instr), i = .mtStart ∨ i = .mtRepStart → exec i s = .next t →
    t.dr = addressByte s.peerAddress 0) ∧
  (∀ (s t : State) (i : Instr), i = .mrStart ∨ i = .mrRepStart → exec i s = .next t →
    t.dr = addressByte s.peerAddress 1)

/-- R90, R91, R100, R101: the start dispatches write the address byte and let the bus proceed, and change nothing
else.  That "continue" is `NEXT_ACK` is decision D10, the two master-receive dispatches are decision D9. -/
def Obligations.StartDispatchesSendTheAddress : Prop :=
  ∀ s : State,
    (∀ i : Instr, i = .mtStart ∨ i = .mtRepStart →
      exec i s = .next { s with
        dr := addressByte s.peerAddress 0
        out := s.out ++ [.wrData (addressByte s.peerAddress 0), .nextAck] }) ∧
    (∀ i : Instr, i = .mrStart ∨ i = .mrRepStart →
      exec i s = .next { s with
        dr := addressByte s.peerAddress 1
        out := s.out ++ [.wrData (addressByte s.peerAddress 1), .nextAck] })

/-- R92, R93: on a byte acknowledged, the next byte of MB is sent while bytes remain, and otherwise `STOP` is issued
and the transaction ends.  `NEXT_ACK` for "continue" is decision D10. -/
def Obligations.MasterSendGoesOnWhileBytesRemain : Prop :=
  ∀ (s : State) (i : Instr), i = .mtSlaAck ∨ i = .mtDataAck →
    (∀ b, s.cursor < s.length → s.mb.read s.cursor = some b →
      exec i s = .next { s with
        cursor := s.cursor + 1, dr := b, out := s.out ++ [.wrData b, .nextAck] }) ∧
    (s.length ≤ s.cursor → exec i s = .next { s with role := .idle, out := s.out ++ [.stop] })

/-- R94, R95: on a byte not acknowledged, `MissingAck` is recorded, `STOP` issued, and the transaction ends; nothing
else changes, the cursor is not stepped back.  Both rules give the dispatch word too. -/
def Obligations.MasterSendNotAcknowledgedEnds : Prop :=
  (∀ (s : State) (i : Instr), i = .mtSlaNack ∨ i = .mtDataNack →
    exec i s = .next { s with lastError := .missingAck, role := .idle, out := s.out ++ [.stop] }) ∧
  decode Config.standard (.dispatch 0x120) = .ok .mtSlaNack ∧
  decode Config.standard (.dispatch 0x130) = .ok .mtDataNack

/-- R102, R103: the look-ahead policy at the address acknowledge: acknowledge when more than one byte remains, refuse
when exactly one does, stop when none does (the last is decision D11). -/
def Obligations.MasterReceiveLooksAhead : Prop :=
  ∀ s : State,
    (s.cursor + 1 < s.length → exec .mrSlaAck s = .next { s with out := s.out ++ [.nextAck] }) ∧
    (s.cursor + 1 = s.length → exec .mrSlaAck s = .next { s with out := s.out ++ [.nextNack] }) ∧
    (s.length ≤ s.cursor → exec .mrSlaAck s = .next { s with role := .idle, out := s.out ++ [.stop] })

/-- R104: a received byte is stored at the cursor, and the look-ahead policy is applied to the cursor after the store; a
byte beyond the length is read and dropped and the transaction ends (decisions D12, D33). -/
def Obligations.MasterReceiveStoresAndLooksAhead : Prop :=
  ∀ s : State,
    (s.cursor + 2 < s.length → exec .mrDataAck s = .next { s with
      mb := s.mb.write s.cursor s.dr, cursor := s.cursor + 1, out := s.out ++ [.rdData, .nextAck] }) ∧
    (s.cursor + 2 = s.length → exec .mrDataAck s = .next { s with
      mb := s.mb.write s.cursor s.dr, cursor := s.cursor + 1, out := s.out ++ [.rdData, .nextNack] }) ∧
    (s.cursor + 1 = s.length → exec .mrDataAck s = .next { s with
      mb := s.mb.write s.cursor s.dr, cursor := s.cursor + 1, role := .idle
      out := s.out ++ [.rdData, .stop] }) ∧
    (s.length ≤ s.cursor → exec .mrDataAck s = .next { s with
      role := .idle, out := s.out ++ [.rdData, .stop] })

/-- R105: the final byte is stored, and the transaction ends with `STOP`, whatever the cursor is; beyond the length
the byte is read and dropped (decision D12). -/
def Obligations.MasterReceiveFinalByteEnds : Prop :=
  ∀ s : State,
    (s.cursor < s.length → exec .mrDataNack s = .next { s with
      mb := s.mb.write s.cursor s.dr, cursor := s.cursor + 1, role := .idle
      out := s.out ++ [.rdData, .stop] }) ∧
    (s.length ≤ s.cursor → exec .mrDataNack s = .next { s with
      role := .idle, out := s.out ++ [.rdData, .stop] })

/-- R106: the address not acknowledged ends a read with `STOP`; `MissingAck` is recorded when `SYMMETRIC_NACK` is true
(conflict C1, decision D8). -/
def Obligations.MasterReceiveNotAcknowledgedEnds : Prop :=
  ∀ s : State,
    (s.config.symmetricNack = true → exec .mrSlaNack s = .next { s with
      lastError := .missingAck, role := .idle, out := s.out ++ [.stop] }) ∧
    (s.config.symmetricNack = false → exec .mrSlaNack s = .next { s with
      role := .idle, out := s.out ++ [.stop] })

/-! ## Slave-receive and slave-transmit -/

/-- R110, R111: the two slave-receive triggers start a transaction and answer with acknowledge (decisions D13, D17,
D18). -/
def Obligations.SlaveReceiveTriggersStart : Prop :=
  ∀ (s : State) (i : Instr), i = .idleSrSlaAck ∨ i = .idleSrGcallAck →
    exec i s = .next { s with
      role := .slaveReceive, cursor := 0, length := s.rxCapacity, lastError := .ok
      rxHandlerActive := s.rxHandler, out := s.out ++ [.nextAck] }

/-- R112 to R116: in all four data dispatches a byte is stored and acknowledged while capacity remains, and otherwise read
without storage and not acknowledged (decisions D13, D33). -/
def Obligations.SlaveReceiveStoresUpToCapacity : Prop :=
  ∀ (s : State) (i : Instr), storesRxb i = true →
    (s.cursor < s.rxCapacity → exec i s = .next { s with
      rxb := s.rxb.write s.cursor s.dr, cursor := s.cursor + 1, out := s.out ++ [.rdData, .nextAck] }) ∧
    (s.rxCapacity ≤ s.cursor → exec i s = .next { s with out := s.out ++ [.rdData, .nextNack] })

/-- R117: at the stop the active handler is called with the stored prefix and its count, then the controller is re-armed and
the transaction ends; with no handler the bytes are dropped (decisions D14, D16). -/
def Obligations.SlaveReceiveStopCallsTheHandler : Prop :=
  ∀ s : State,
    (∀ h bytes, s.rxHandlerActive = some h → s.rxb.bytes s.cursor = some bytes →
      bytes.length = s.cursor ∧
      exec .srStop s = .next { s with
        role := .idle, out := s.out ++ [.callRx h bytes s.cursor, .nextAck] }) ∧
    (s.rxHandlerActive = none → exec .srStop s = .next { s with
      role := .idle, out := s.out ++ [.nextAck] })

/-- R120, R121: the slave-transmit trigger asks the provider once, takes at most `maxTxLength` of its bytes, and sends the
first: announced as the last when it is the only one; with nothing to send it answers without acknowledge.  The
bound, the missing provider and the empty answer are decision D15, clearing the error decision D18. -/
def Obligations.SlaveTransmitTriggerSendsTheFirstByte : Prop :=
  ∀ s : State,
    (∀ p b rest, s.txProvider = some p → s.txAnswer = b :: rest → 0 < s.maxTxLength →
      exec .idleStSlaAck s = .next { s with
        role := .slaveTransmit, lastError := .ok, cursor := 1
        length := min s.txAnswer.length s.maxTxLength, txb := Memory.ofBytes s.txAnswer, dr := b
        out := s.out ++ [.callTx p, .wrData b,
          if 1 < min s.txAnswer.length s.maxTxLength then .nextAck else .nextNack] }) ∧
    (∀ p, s.txProvider = some p → s.txAnswer = [] ∨ s.maxTxLength = 0 →
      exec .idleStSlaAck s = .next { s with
        role := .slaveTransmit, lastError := .ok, cursor := 0, length := 0
        txb := Memory.ofBytes s.txAnswer, out := s.out ++ [.callTx p, .nextNack] }) ∧
    (s.txProvider = none →
      exec .idleStSlaAck s = .next { s with
        role := .slaveTransmit, lastError := .ok, cursor := 0, length := 0, txb := []
        out := s.out ++ [.nextNack] })

/-- R120, R122: on a byte acknowledged by the reading peer the next byte of TXB is sent, announced as the last when none
remains after it; with nothing left the controller is re-armed and the transaction ends (decisions D14, D15). -/
def Obligations.SlaveTransmitGoesOnWhileBytesRemain : Prop :=
  ∀ s : State,
    (∀ b, s.cursor + 1 < s.length → s.txb.read s.cursor = some b →
      exec .stDataAck s = .next { s with
        cursor := s.cursor + 1, dr := b, out := s.out ++ [.wrData b, .nextAck] }) ∧
    (∀ b, s.cursor + 1 = s.length → s.txb.read s.cursor = some b →
      exec .stDataAck s = .next { s with
        cursor := s.cursor + 1, dr := b, out := s.out ++ [.wrData b, .nextNack] }) ∧
    (s.length ≤ s.cursor →
      exec .stDataAck s = .next { s with role := .idle, out := s.out ++ [.nextAck] })

/-- R123, R124: a byte refused by the peer and the completion of the final byte both re-arm the controller and return to
Idle; no error is recorded (conflict C13); the re-arm is decision D14. -/
def Obligations.SlaveTransmitEndsWithoutError : Prop :=
  ∀ (s : State) (i : Instr), i = .stDataNack ∨ i = .stLastData →
    exec i s = .next { s with role := .idle, out := s.out ++ [.nextAck] }

/-! ## Common dispatches and operations -/

/-- R131: a bus error is recorded, `STOP` issued, and the driver returns to Idle; nothing else changes.  The word is
defined with any role bits. -/
def Obligations.BusErrorStopsAndReturnsToIdle : Prop :=
  (∀ s : State, exec .anyBusError s = .next { s with
    lastError := .busError, role := .idle, out := s.out ++ [.stop] }) ∧
  (∀ r : BitVec 3, decode Config.standard (.dispatch (dispatchWord r 0x00)) = .ok .anyBusError)

/-- R130, R132: "no relevant information" returns to Idle and does nothing else (decision D24); lost arbitration is
recorded and the bus released with no stop condition (decision D4).  Both in any role (decision D25). -/
def Obligations.NoInfoAndArbitrationLossReturnToIdle : Prop :=
  (∀ s : State, exec .anyNoInfo s = .next { s with role := .idle }) ∧
  (∀ s : State, exec .anyArbLost s = .next { s with
    lastError := .lostArbitration, role := .idle, out := s.out ++ [.release] }) ∧
  (∀ r : BitVec 3, decode Config.standard (.dispatch (dispatchWord r 0xF8)) = .ok .anyNoInfo ∧
    decode Config.standard (.dispatch (dispatchWord r 0x38)) = .ok .anyArbLost)

/-- R142 to R154: an operation given to the encoder by itself joins the output list and changes nothing else, but for
`WR_DATA`, which also fills the data register.  That it can be given by itself is the model's choice
(notes/assumptions/3.md). -/
def Obligations.EncoderOperationsJoinTheOutputList : Prop :=
  ∀ s : State,
    (∀ i op, (i, op) ∈ [(.opStart, .start), (.opStop, .stop), (.opNextAck, .nextAck), (.opNextNack, .nextNack),
        (.opRelease, .release), (.opRdData, .rdData), (.opEnable, .enable), (Instr.opDisableBc, Op.disableBc)] →
      exec i s = .next { s with out := s.out ++ [op] }) ∧
    exec .opNone s = .next s ∧
    (∀ b, exec (.opWrData b) s = .next { s with dr := b, out := s.out ++ [.wrData b] }) ∧
    (∀ a, exec (.opSetOwnAddr a) s = .next { s with out := s.out ++ [.setOwnAddr a] }) ∧
    (∀ v, exec (.opSetClockDiv v) s = .next { s with out := s.out ++ [.setClockDiv v] }) ∧
    (∀ h bytes n, exec (.opCallRx h bytes n) s = .next { s with out := s.out ++ [.callRx h bytes n] }) ∧
    (∀ p, exec (.opCallTx p) s = .next { s with out := s.out ++ [.callTx p] })

/-- R30, R180: the state after reset.  The source fixes `role = Idle`; every other value is decision D26, and those of
the fields R30 does not list are notes/assumptions/2.md. -/
def Obligations.ResetState : Prop :=
  State.reset.role = .idle ∧ State.reset.peerAddress = 0 ∧ State.reset.cursor = 0 ∧ State.reset.length = 0 ∧
  State.reset.lastError = .ok ∧ State.reset.mode = .master ∧ State.reset.ownAddress = 0 ∧
  State.reset.rxCapacity = 0 ∧ State.reset.clockSpeedHz = 0 ∧ State.reset.pullupEnabled = false ∧
  State.reset.enabled = false ∧ State.reset.rxHandler = none ∧ State.reset.rxHandlerActive = none ∧
  State.reset.txProvider = none ∧ State.reset.maxTxLength = 0 ∧ State.reset.borrowed = false ∧
  State.reset.txb = [] ∧ State.reset.inbox = [] ∧ State.reset.out = []

/-! ## Whole transactions -/

/-- R96 (a), (d): from any Idle, enabled master, a `SEND_TO` of `length` bytes to a peer that acknowledges every phase
takes `length + 3` steps (the command and `length + 2` PSM steps), emits `START`, the address byte, the bytes in
order each followed by `NEXT_ACK`, and one `STOP`, and ends in Idle with no error (decisions D10, D18). -/
def Obligations.SendTransactionSendsEveryByteInOrder : Prop :=
  ∀ (s : State) (a : BusAddress) (data : List Byte) (rest : List Packet),
    s.config.statusTable = standardStatusTable → data.length ≤ s.config.cntMax →
    s.enabled = true → s.mode = .master → s.role = .idle →
    s.inbox = .command 2 { address := a, bytes := data, length := data.length } :: event 0x08 :: event 0x18 ::
      (List.replicate data.length (event 0x28) ++ rest) →
    ∃ t, runSteps (data.length + 3) s = .next t ∧
      opsSince s.history t =
        [.start, .wrData (addressByte a 0), .nextAck] ++ data.flatMap (fun b => [.wrData b, .nextAck]) ++ [.stop] ∧
      t.role = .idle ∧ t.lastError = .ok ∧ t.cursor = data.length ∧ t.length = data.length ∧ t.inbox = rest

/-- R107: from any Idle, enabled master, a `READ_FROM` of `n + 1` bytes, with the peer sending `bytes ++ [last]`,
acknowledges every byte request but the last and refuses that one, ends with one `STOP` in Idle, and leaves the bytes
in the buffer in arrival order (decisions D9, D10, D18).  A read of length 0 is in `MasterReceiveLooksAhead`. -/
def Obligations.ReadTransactionStoresEveryByteInOrder : Prop :=
  ∀ (s : State) (a : BusAddress) (buffer bytes : List Byte) (last : Byte) (rest : List Packet),
    s.config.statusTable = standardStatusTable →
    bytes.length + 1 ≤ s.config.cntMax → bytes.length + 1 ≤ buffer.length →
    s.enabled = true → s.mode = .master → s.role = .idle →
    s.inbox = .command 3 { address := a, bytes := buffer, length := bytes.length + 1 } ::
      event 0x08 :: event 0x40 :: (bytes.map (eventDr 0x50) ++ eventDr 0x58 last :: rest) →
    ∃ t, runSteps (bytes.length + 4) s = .next t ∧
      t.mb.bytes (bytes.length + 1) = some (bytes ++ [last]) ∧
      (opsSince s.history t).count .stop = 1 ∧
      ((opsSince s.history t).drop 3).filter (fun op => op == .nextAck || op == .nextNack) =
        List.replicate bytes.length .nextAck ++ [.nextNack] ∧
      t.role = .idle ∧ t.lastError = .ok ∧ t.cursor = bytes.length + 1 ∧ t.inbox = rest

/-- R118 (a): from any Idle state, a slave-receive transaction that delivers the bytes `bytes` and then a stop calls the
registered handler once, with the first `min(k, rxCapacity)` bytes in order and their count, and returns to Idle
(decisions D13, D14, D17, D18).  The run is that of the own-address trigger and class; the broadcast trigger and the
other three data classes are in `SlaveReceiveTriggersStart` and `SlaveReceiveStoresUpToCapacity`. -/
def Obligations.SlaveReceiveDeliversUpToCapacity : Prop :=
  ∀ (s : State) (h : CallbackId) (bytes : List Byte) (rest : List Packet),
    s.config.statusTable = standardStatusTable → s.role = .idle → s.rxHandler = some h →
    s.inbox = event 0x60 :: (bytes.map (eventDr 0x80) ++ event 0xA0 :: rest) →
    ∃ t, runSteps (bytes.length + 2) s = .next t ∧
      (opsSince s.history t).filter isCallback =
        [.callRx h (bytes.take s.rxCapacity) (min bytes.length s.rxCapacity)] ∧
      (opsSince s.history t).getLast? = some .nextAck ∧
      t.role = .idle ∧ t.lastError = .ok ∧ t.cursor = min bytes.length s.rxCapacity ∧ t.inbox = rest

/-- R125 (a), (b): from any Idle state with a provider, a slave-transmit transaction of `n + 1` bytes whose peer
acknowledges every byte but the last calls the provider once, sends the first `n + 1` bytes of its answer in order, each
but the last with acknowledge expected, and takes `n + 2` steps to return to Idle (decisions D14, D15, D18).  No
provider and length 0 are in `SlaveTransmitTriggerSendsTheFirstByte`. -/
def Obligations.SlaveTransmitSendsUpToTheMaximum : Prop :=
  ∀ (s : State) (p : CallbackId) (tx : List Byte) (n : Nat) (rest : List Packet),
    s.config.statusTable = standardStatusTable → s.role = .idle → s.txProvider = some p →
    n + 1 = min tx.length s.maxTxLength →
    s.inbox = .interrupt 0xA8 0 tx :: (List.replicate n (event 0xB8) ++ event 0xC8 :: rest) →
    ∃ t, runSteps (n + 2) s = .next t ∧
      (opsSince s.history t).filter isCallback = [.callTx p] ∧
      (opsSince s.history t).filter (fun op => !isCallback op) =
        (tx.take n).flatMap (fun b => [.wrData b, .nextAck]) ++
        ((tx.drop n).take 1).flatMap (fun b => [.wrData b, .nextNack]) ++ [.nextAck] ∧
      t.role = .idle ∧ t.lastError = .ok ∧ t.cursor = n + 1 ∧ t.inbox = rest
end

