-- ==== Sys2Proof/Laws/Memory.lean ====
section
/-! SUPPORT. The laws of the byte stores: read after write, canonical form, coverage, and the bytes of
a laid-out sequence. -/

namespace Sys2Proof.Machine

@[simp] theorem Memory.read_nil (i : Nat) : Memory.read [] i = none := rfl

/-- A read at the written index gives the byte written. -/
@[simp] theorem Memory.read_write_same (m : Memory) (i : Nat) (b : Byte) :
    (m.write i b).read i = some b := by
  induction m with
  | nil => simp [Memory.write, Memory.read]
  | cons c rest ih =>
    obtain ⟨j, x⟩ := c
    simp only [Memory.write]
    split
    · simp [Memory.read]
    · split
      · simp [Memory.read]
      · rename_i h; simp [Memory.read, Ne.symm h, ih]

/-- A write leaves every other index alone. -/
theorem Memory.read_write_other (m : Memory) {i k : Nat} (b : Byte) (h : k ≠ i) :
    (m.write i b).read k = m.read k := by
  induction m with
  | nil => simp [Memory.write, Memory.read, Ne.symm h]
  | cons c rest ih =>
    obtain ⟨j, x⟩ := c
    simp only [Memory.write]
    split
    · simp [Memory.read, Ne.symm h]
    · split
      · rename_i hij; subst hij; simp [Memory.read, Ne.symm h]
      · by_cases hj : j = k <;> simp [Memory.read, hj, ih]

/-- Every entry of a written store is the written one or an old one. -/
theorem Memory.mem_write {m : Memory} {i : Nat} {b : Byte} {c : Host.Cell}
    (h : c ∈ m.write i b) : c = (i, b) ∨ c ∈ m := by
  induction m with
  | nil => simpa [Memory.write] using h
  | cons d rest ih =>
    simp only [Memory.write] at h
    split at h
    · simpa using h
    · split at h
      · rcases List.mem_cons.mp h with h | h <;> simp [h]
      · rcases List.mem_cons.mp h with h | h
        · simp [h]
        · rcases ih h with h | h <;> simp [h]

/-- A write keeps the canonical form. -/
theorem Memory.wf_write {m : Memory} (h : m.wf) (i : Nat) (b : Byte) : (m.write i b).wf := by
  induction m with
  | nil => simp [Memory.write]
  | cons d rest ih =>
    obtain ⟨j, x⟩ := d
    obtain ⟨hd, hrest⟩ := List.pairwise_cons.mp h
    simp only [Memory.write]
    split
    · rename_i hij
      refine List.pairwise_cons.mpr ⟨fun c hc => ?_, h⟩
      rcases List.mem_cons.mp hc with rfl | hc
      · exact hij
      · exact Nat.lt_trans hij (hd c hc)
    · split
      · rename_i hij; subst hij; exact List.pairwise_cons.mpr ⟨hd, hrest⟩
      · rename_i h1 h2
        refine List.pairwise_cons.mpr ⟨fun c hc => ?_, ih hrest⟩
        rcases Memory.mem_write hc with rfl | hc
        · exact Nat.lt_of_le_of_ne (Nat.not_lt.mp h1) (Ne.symm h2)
        · exact hd c hc

/-- Every index of a laid-out sequence is at least where it starts. -/
theorem Memory.le_of_mem_layout {bs : List Byte} {k : Nat} {c : Host.Cell}
    (h : c ∈ Memory.layout k bs) : k ≤ c.1 := by
  induction bs generalizing k with
  | nil => simp [Memory.layout] at h
  | cons b bs ih =>
    rcases List.mem_cons.mp h with rfl | h
    · exact Nat.le_refl _
    · exact Nat.le_of_succ_le (ih h)

/-- A laid-out sequence is in canonical form. -/
theorem Memory.wf_layout (k : Nat) (bs : List Byte) : (Memory.layout k bs).wf := by
  induction bs generalizing k with
  | nil => simp [Memory.layout]
  | cons b bs ih =>
    exact List.pairwise_cons.mpr ⟨fun c hc => Memory.le_of_mem_layout hc, ih _⟩

theorem Memory.wf_ofBytes (bs : List Byte) : (Memory.ofBytes bs).wf := Memory.wf_layout 0 bs

theorem Memory.read_layout (bs : List Byte) (k i : Nat) :
    (Memory.layout k bs).read (k + i) = bs[i]? := by
  induction bs generalizing k i with
  | nil => simp [Memory.layout]
  | cons b bs ih =>
    cases i with
    | zero => simp [Memory.layout, Memory.read]
    | succ i =>
      have h := ih (k + 1) i
      rw [show k + 1 + i = k + (i + 1) by omega] at h
      simp [Memory.layout, Memory.read, h]

/-- R46: byte `i` of a sequence stands at index `i`. -/
@[simp] theorem Memory.read_ofBytes (bs : List Byte) (i : Nat) :
    (Memory.ofBytes bs).read i = bs[i]? := by
  have h := Memory.read_layout bs 0 i
  rwa [Nat.zero_add] at h

theorem Memory.covers_ofBytes {bs : List Byte} {n : Nat} (h : n ≤ bs.length) :
    (Memory.ofBytes bs).covers n := fun i hi => by
  simp [List.getElem?_eq_getElem (Nat.lt_of_lt_of_le hi h)]

theorem Memory.covers_zero (m : Memory) : m.covers 0 := fun _ hi => absurd hi (Nat.not_lt_zero _)

/-- A write takes no byte away. -/
theorem Memory.covers_write {m : Memory} {n : Nat} (h : m.covers n) (i : Nat) (b : Byte) :
    (m.write i b).covers n := fun k hk => by
  by_cases hki : k = i
  · simp [hki]
  · rw [Memory.read_write_other m b hki]; exact h k hk

/-- Writing at the end of the covered indices covers one more. -/
theorem Memory.covers_write_next {m : Memory} {n : Nat} (h : m.covers n) (b : Byte) :
    (m.write n b).covers (n + 1) := fun k hk => by
  by_cases hkn : k = n
  · simp [hkn]
  · rw [Memory.read_write_other m b hkn]; exact h k (by omega)

/-- A covered prefix can be read as a sequence, of its length. -/
theorem Memory.bytes_of_covers {m : Memory} {n : Nat} (h : m.covers n) :
    ∃ bs, m.bytes n = some bs ∧ bs.length = n := by
  induction n with
  | zero => exact ⟨[], rfl, rfl⟩
  | succ n ih =>
    obtain ⟨bs, hbs, hlen⟩ := ih fun i hi => h i (by omega)
    obtain ⟨b, hb⟩ := Option.isSome_iff_exists.mp (h n (by omega))
    exact ⟨bs ++ [b], by simp [Memory.bytes, hbs, hb], by simp [hlen]⟩

theorem Memory.length_bytes {m : Memory} {n : Nat} {bs : List Byte} (h : m.bytes n = some bs) :
    bs.length = n := by
  induction n generalizing bs with
  | zero => simp [Memory.bytes] at h; simp [← h]
  | succ n ih =>
    simp only [Memory.bytes] at h
    split at h
    · rename_i bs' b h1 h2
      simp at h
      simp [← h, ih h1]
    · simp at h

/-- The prefix of a laid-out sequence is the prefix of the sequence. -/
theorem Memory.bytes_ofBytes {bs : List Byte} {n : Nat} (h : n ≤ bs.length) :
    (Memory.ofBytes bs).bytes n = some (bs.take n) := by
  induction n with
  | zero => simp [Memory.bytes]
  | succ n ih =>
    have hn : n < bs.length := by omega
    simp [Memory.bytes, ih (by omega), List.getElem?_eq_getElem hn]

/-- A write at or above `n` leaves the first `n` bytes alone. -/
theorem Memory.bytes_write_above (m : Memory) {n i : Nat} (b : Byte) (h : n ≤ i) :
    (m.write i b).bytes n = m.bytes n := by
  induction n with
  | zero => rfl
  | succ n ih =>
    simp only [Memory.bytes]
    rw [ih (by omega), Memory.read_write_other m b (by omega)]

/-- R55: storing the next byte makes the stored prefix one byte longer. -/
theorem Memory.bytes_write_next {m : Memory} {n : Nat} {bs : List Byte} (b : Byte)
    (h : m.bytes n = some bs) : (m.write n b).bytes (n + 1) = some (bs ++ [b]) := by
  simp [Memory.bytes, Memory.bytes_write_above m b (Nat.le_refl n), h]

end Sys2Proof.Machine
end

