-- ==== Sys2Proof/Laws/State.lean ====
section
/-! SUPPORT. One lemma per field for each named update of the state: a later proof reads a field of an
updated state without unfolding the update. -/

namespace Sys2Proof.Machine

variable (s : State)

/-! ### `State.recordError` -/

@[simp] theorem State.recordError_config (e : ErrorCode) : (s.recordError e).config = s.config := rfl
@[simp] theorem State.recordError_role (e : ErrorCode) : (s.recordError e).role = s.role := rfl
@[simp] theorem State.recordError_peerAddress (e : ErrorCode) : (s.recordError e).peerAddress = s.peerAddress := rfl
@[simp] theorem State.recordError_cursor (e : ErrorCode) : (s.recordError e).cursor = s.cursor := rfl
@[simp] theorem State.recordError_length (e : ErrorCode) : (s.recordError e).length = s.length := rfl
@[simp] theorem State.recordError_lastError (e : ErrorCode) : (s.recordError e).lastError = e := rfl
@[simp] theorem State.recordError_mode (e : ErrorCode) : (s.recordError e).mode = s.mode := rfl
@[simp] theorem State.recordError_ownAddress (e : ErrorCode) : (s.recordError e).ownAddress = s.ownAddress := rfl
@[simp] theorem State.recordError_rxCapacity (e : ErrorCode) : (s.recordError e).rxCapacity = s.rxCapacity := rfl
@[simp] theorem State.recordError_clockSpeedHz (e : ErrorCode) : (s.recordError e).clockSpeedHz = s.clockSpeedHz := rfl
@[simp] theorem State.recordError_pullupEnabled (e : ErrorCode) : (s.recordError e).pullupEnabled = s.pullupEnabled := rfl
@[simp] theorem State.recordError_enabled (e : ErrorCode) : (s.recordError e).enabled = s.enabled := rfl
@[simp] theorem State.recordError_rxHandler (e : ErrorCode) : (s.recordError e).rxHandler = s.rxHandler := rfl
@[simp] theorem State.recordError_rxHandlerActive (e : ErrorCode) : (s.recordError e).rxHandlerActive = s.rxHandlerActive := rfl
@[simp] theorem State.recordError_txProvider (e : ErrorCode) : (s.recordError e).txProvider = s.txProvider := rfl
@[simp] theorem State.recordError_maxTxLength (e : ErrorCode) : (s.recordError e).maxTxLength = s.maxTxLength := rfl
@[simp] theorem State.recordError_mb (e : ErrorCode) : (s.recordError e).mb = s.mb := rfl
@[simp] theorem State.recordError_rxb (e : ErrorCode) : (s.recordError e).rxb = s.rxb := rfl
@[simp] theorem State.recordError_txb (e : ErrorCode) : (s.recordError e).txb = s.txb := rfl
@[simp] theorem State.recordError_dr (e : ErrorCode) : (s.recordError e).dr = s.dr := rfl
@[simp] theorem State.recordError_sr (e : ErrorCode) : (s.recordError e).sr = s.sr := rfl
@[simp] theorem State.recordError_txAnswer (e : ErrorCode) : (s.recordError e).txAnswer = s.txAnswer := rfl
@[simp] theorem State.recordError_inbox (e : ErrorCode) : (s.recordError e).inbox = s.inbox := rfl
@[simp] theorem State.recordError_out (e : ErrorCode) : (s.recordError e).out = s.out := rfl
@[simp] theorem State.recordError_accepted (e : ErrorCode) : (s.recordError e).accepted = s.accepted := rfl
@[simp] theorem State.recordError_history (e : ErrorCode) : (s.recordError e).history = s.history := rfl

/-! ### `State.answer` -/

@[simp] theorem State.answer_config (b : Bool) : (s.answer b).config = s.config := rfl
@[simp] theorem State.answer_role (b : Bool) : (s.answer b).role = s.role := rfl
@[simp] theorem State.answer_peerAddress (b : Bool) : (s.answer b).peerAddress = s.peerAddress := rfl
@[simp] theorem State.answer_cursor (b : Bool) : (s.answer b).cursor = s.cursor := rfl
@[simp] theorem State.answer_length (b : Bool) : (s.answer b).length = s.length := rfl
@[simp] theorem State.answer_lastError (b : Bool) : (s.answer b).lastError = s.lastError := rfl
@[simp] theorem State.answer_mode (b : Bool) : (s.answer b).mode = s.mode := rfl
@[simp] theorem State.answer_ownAddress (b : Bool) : (s.answer b).ownAddress = s.ownAddress := rfl
@[simp] theorem State.answer_rxCapacity (b : Bool) : (s.answer b).rxCapacity = s.rxCapacity := rfl
@[simp] theorem State.answer_clockSpeedHz (b : Bool) : (s.answer b).clockSpeedHz = s.clockSpeedHz := rfl
@[simp] theorem State.answer_pullupEnabled (b : Bool) : (s.answer b).pullupEnabled = s.pullupEnabled := rfl
@[simp] theorem State.answer_enabled (b : Bool) : (s.answer b).enabled = s.enabled := rfl
@[simp] theorem State.answer_rxHandler (b : Bool) : (s.answer b).rxHandler = s.rxHandler := rfl
@[simp] theorem State.answer_rxHandlerActive (b : Bool) : (s.answer b).rxHandlerActive = s.rxHandlerActive := rfl
@[simp] theorem State.answer_txProvider (b : Bool) : (s.answer b).txProvider = s.txProvider := rfl
@[simp] theorem State.answer_maxTxLength (b : Bool) : (s.answer b).maxTxLength = s.maxTxLength := rfl
@[simp] theorem State.answer_mb (b : Bool) : (s.answer b).mb = s.mb := rfl
@[simp] theorem State.answer_rxb (b : Bool) : (s.answer b).rxb = s.rxb := rfl
@[simp] theorem State.answer_txb (b : Bool) : (s.answer b).txb = s.txb := rfl
@[simp] theorem State.answer_dr (b : Bool) : (s.answer b).dr = s.dr := rfl
@[simp] theorem State.answer_sr (b : Bool) : (s.answer b).sr = s.sr := rfl
@[simp] theorem State.answer_txAnswer (b : Bool) : (s.answer b).txAnswer = s.txAnswer := rfl
@[simp] theorem State.answer_inbox (b : Bool) : (s.answer b).inbox = s.inbox := rfl
@[simp] theorem State.answer_out (b : Bool) : (s.answer b).out = s.out := rfl
@[simp] theorem State.answer_accepted (b : Bool) : (s.answer b).accepted = some b := rfl
@[simp] theorem State.answer_history (b : Bool) : (s.answer b).history = s.history := rfl

/-! ### `State.emit` -/

@[simp] theorem State.emit_config (op : Op) : (s.emit op).config = s.config := rfl
@[simp] theorem State.emit_role (op : Op) : (s.emit op).role = s.role := rfl
@[simp] theorem State.emit_peerAddress (op : Op) : (s.emit op).peerAddress = s.peerAddress := rfl
@[simp] theorem State.emit_cursor (op : Op) : (s.emit op).cursor = s.cursor := rfl
@[simp] theorem State.emit_length (op : Op) : (s.emit op).length = s.length := rfl
@[simp] theorem State.emit_lastError (op : Op) : (s.emit op).lastError = s.lastError := rfl
@[simp] theorem State.emit_mode (op : Op) : (s.emit op).mode = s.mode := rfl
@[simp] theorem State.emit_ownAddress (op : Op) : (s.emit op).ownAddress = s.ownAddress := rfl
@[simp] theorem State.emit_rxCapacity (op : Op) : (s.emit op).rxCapacity = s.rxCapacity := rfl
@[simp] theorem State.emit_clockSpeedHz (op : Op) : (s.emit op).clockSpeedHz = s.clockSpeedHz := rfl
@[simp] theorem State.emit_pullupEnabled (op : Op) : (s.emit op).pullupEnabled = s.pullupEnabled := rfl
@[simp] theorem State.emit_enabled (op : Op) : (s.emit op).enabled = s.enabled := rfl
@[simp] theorem State.emit_rxHandler (op : Op) : (s.emit op).rxHandler = s.rxHandler := rfl
@[simp] theorem State.emit_rxHandlerActive (op : Op) : (s.emit op).rxHandlerActive = s.rxHandlerActive := rfl
@[simp] theorem State.emit_txProvider (op : Op) : (s.emit op).txProvider = s.txProvider := rfl
@[simp] theorem State.emit_maxTxLength (op : Op) : (s.emit op).maxTxLength = s.maxTxLength := rfl
@[simp] theorem State.emit_mb (op : Op) : (s.emit op).mb = s.mb := rfl
@[simp] theorem State.emit_rxb (op : Op) : (s.emit op).rxb = s.rxb := rfl
@[simp] theorem State.emit_txb (op : Op) : (s.emit op).txb = s.txb := rfl
@[simp] theorem State.emit_dr (op : Op) : (s.emit op).dr = s.dr := rfl
@[simp] theorem State.emit_sr (op : Op) : (s.emit op).sr = s.sr := rfl
@[simp] theorem State.emit_txAnswer (op : Op) : (s.emit op).txAnswer = s.txAnswer := rfl
@[simp] theorem State.emit_inbox (op : Op) : (s.emit op).inbox = s.inbox := rfl
@[simp] theorem State.emit_out (op : Op) : (s.emit op).out = s.out ++ [op] := rfl
@[simp] theorem State.emit_accepted (op : Op) : (s.emit op).accepted = s.accepted := rfl
@[simp] theorem State.emit_history (op : Op) : (s.emit op).history = s.history := rfl

/-! ### `State.writeData` -/

@[simp] theorem State.writeData_config (b : Byte) : (s.writeData b).config = s.config := rfl
@[simp] theorem State.writeData_role (b : Byte) : (s.writeData b).role = s.role := rfl
@[simp] theorem State.writeData_peerAddress (b : Byte) : (s.writeData b).peerAddress = s.peerAddress := rfl
@[simp] theorem State.writeData_cursor (b : Byte) : (s.writeData b).cursor = s.cursor := rfl
@[simp] theorem State.writeData_length (b : Byte) : (s.writeData b).length = s.length := rfl
@[simp] theorem State.writeData_lastError (b : Byte) : (s.writeData b).lastError = s.lastError := rfl
@[simp] theorem State.writeData_mode (b : Byte) : (s.writeData b).mode = s.mode := rfl
@[simp] theorem State.writeData_ownAddress (b : Byte) : (s.writeData b).ownAddress = s.ownAddress := rfl
@[simp] theorem State.writeData_rxCapacity (b : Byte) : (s.writeData b).rxCapacity = s.rxCapacity := rfl
@[simp] theorem State.writeData_clockSpeedHz (b : Byte) : (s.writeData b).clockSpeedHz = s.clockSpeedHz := rfl
@[simp] theorem State.writeData_pullupEnabled (b : Byte) : (s.writeData b).pullupEnabled = s.pullupEnabled := rfl
@[simp] theorem State.writeData_enabled (b : Byte) : (s.writeData b).enabled = s.enabled := rfl
@[simp] theorem State.writeData_rxHandler (b : Byte) : (s.writeData b).rxHandler = s.rxHandler := rfl
@[simp] theorem State.writeData_rxHandlerActive (b : Byte) : (s.writeData b).rxHandlerActive = s.rxHandlerActive := rfl
@[simp] theorem State.writeData_txProvider (b : Byte) : (s.writeData b).txProvider = s.txProvider := rfl
@[simp] theorem State.writeData_maxTxLength (b : Byte) : (s.writeData b).maxTxLength = s.maxTxLength := rfl
@[simp] theorem State.writeData_mb (b : Byte) : (s.writeData b).mb = s.mb := rfl
@[simp] theorem State.writeData_rxb (b : Byte) : (s.writeData b).rxb = s.rxb := rfl
@[simp] theorem State.writeData_txb (b : Byte) : (s.writeData b).txb = s.txb := rfl
@[simp] theorem State.writeData_dr (b : Byte) : (s.writeData b).dr = b := rfl
@[simp] theorem State.writeData_sr (b : Byte) : (s.writeData b).sr = s.sr := rfl
@[simp] theorem State.writeData_txAnswer (b : Byte) : (s.writeData b).txAnswer = s.txAnswer := rfl
@[simp] theorem State.writeData_inbox (b : Byte) : (s.writeData b).inbox = s.inbox := rfl
@[simp] theorem State.writeData_out (b : Byte) : (s.writeData b).out = s.out ++ [.wrData b] := rfl
@[simp] theorem State.writeData_accepted (b : Byte) : (s.writeData b).accepted = s.accepted := rfl
@[simp] theorem State.writeData_history (b : Byte) : (s.writeData b).history = s.history := rfl

/-! ### `State.readData` -/

@[simp] theorem State.readData_config : (s.readData).config = s.config := rfl
@[simp] theorem State.readData_role : (s.readData).role = s.role := rfl
@[simp] theorem State.readData_peerAddress : (s.readData).peerAddress = s.peerAddress := rfl
@[simp] theorem State.readData_cursor : (s.readData).cursor = s.cursor := rfl
@[simp] theorem State.readData_length : (s.readData).length = s.length := rfl
@[simp] theorem State.readData_lastError : (s.readData).lastError = s.lastError := rfl
@[simp] theorem State.readData_mode : (s.readData).mode = s.mode := rfl
@[simp] theorem State.readData_ownAddress : (s.readData).ownAddress = s.ownAddress := rfl
@[simp] theorem State.readData_rxCapacity : (s.readData).rxCapacity = s.rxCapacity := rfl
@[simp] theorem State.readData_clockSpeedHz : (s.readData).clockSpeedHz = s.clockSpeedHz := rfl
@[simp] theorem State.readData_pullupEnabled : (s.readData).pullupEnabled = s.pullupEnabled := rfl
@[simp] theorem State.readData_enabled : (s.readData).enabled = s.enabled := rfl
@[simp] theorem State.readData_rxHandler : (s.readData).rxHandler = s.rxHandler := rfl
@[simp] theorem State.readData_rxHandlerActive : (s.readData).rxHandlerActive = s.rxHandlerActive := rfl
@[simp] theorem State.readData_txProvider : (s.readData).txProvider = s.txProvider := rfl
@[simp] theorem State.readData_maxTxLength : (s.readData).maxTxLength = s.maxTxLength := rfl
@[simp] theorem State.readData_mb : (s.readData).mb = s.mb := rfl
@[simp] theorem State.readData_rxb : (s.readData).rxb = s.rxb := rfl
@[simp] theorem State.readData_txb : (s.readData).txb = s.txb := rfl
@[simp] theorem State.readData_dr : (s.readData).dr = s.dr := rfl
@[simp] theorem State.readData_sr : (s.readData).sr = s.sr := rfl
@[simp] theorem State.readData_txAnswer : (s.readData).txAnswer = s.txAnswer := rfl
@[simp] theorem State.readData_inbox : (s.readData).inbox = s.inbox := rfl
@[simp] theorem State.readData_out : (s.readData).out = s.out ++ [.rdData] := rfl
@[simp] theorem State.readData_accepted : (s.readData).accepted = s.accepted := rfl
@[simp] theorem State.readData_history : (s.readData).history = s.history := rfl

/-! ### `State.terminate` -/

@[simp] theorem State.terminate_config : (s.terminate).config = s.config := rfl
@[simp] theorem State.terminate_role : (s.terminate).role = .idle := rfl
@[simp] theorem State.terminate_peerAddress : (s.terminate).peerAddress = s.peerAddress := rfl
@[simp] theorem State.terminate_cursor : (s.terminate).cursor = s.cursor := rfl
@[simp] theorem State.terminate_length : (s.terminate).length = s.length := rfl
@[simp] theorem State.terminate_lastError : (s.terminate).lastError = s.lastError := rfl
@[simp] theorem State.terminate_mode : (s.terminate).mode = s.mode := rfl
@[simp] theorem State.terminate_ownAddress : (s.terminate).ownAddress = s.ownAddress := rfl
@[simp] theorem State.terminate_rxCapacity : (s.terminate).rxCapacity = s.rxCapacity := rfl
@[simp] theorem State.terminate_clockSpeedHz : (s.terminate).clockSpeedHz = s.clockSpeedHz := rfl
@[simp] theorem State.terminate_pullupEnabled : (s.terminate).pullupEnabled = s.pullupEnabled := rfl
@[simp] theorem State.terminate_enabled : (s.terminate).enabled = s.enabled := rfl
@[simp] theorem State.terminate_rxHandler : (s.terminate).rxHandler = s.rxHandler := rfl
@[simp] theorem State.terminate_rxHandlerActive : (s.terminate).rxHandlerActive = s.rxHandlerActive := rfl
@[simp] theorem State.terminate_txProvider : (s.terminate).txProvider = s.txProvider := rfl
@[simp] theorem State.terminate_maxTxLength : (s.terminate).maxTxLength = s.maxTxLength := rfl
@[simp] theorem State.terminate_mb : (s.terminate).mb = s.mb := rfl
@[simp] theorem State.terminate_rxb : (s.terminate).rxb = s.rxb := rfl
@[simp] theorem State.terminate_txb : (s.terminate).txb = s.txb := rfl
@[simp] theorem State.terminate_dr : (s.terminate).dr = s.dr := rfl
@[simp] theorem State.terminate_sr : (s.terminate).sr = s.sr := rfl
@[simp] theorem State.terminate_txAnswer : (s.terminate).txAnswer = s.txAnswer := rfl
@[simp] theorem State.terminate_inbox : (s.terminate).inbox = s.inbox := rfl
@[simp] theorem State.terminate_out : (s.terminate).out = s.out := rfl
@[simp] theorem State.terminate_accepted : (s.terminate).accepted = s.accepted := rfl
@[simp] theorem State.terminate_history : (s.terminate).history = s.history := rfl

/-! ### `State.advance` -/

@[simp] theorem State.advance_config : (s.advance).config = s.config := rfl
@[simp] theorem State.advance_role : (s.advance).role = s.role := rfl
@[simp] theorem State.advance_peerAddress : (s.advance).peerAddress = s.peerAddress := rfl
@[simp] theorem State.advance_cursor : (s.advance).cursor = s.cursor + 1 := rfl
@[simp] theorem State.advance_length : (s.advance).length = s.length := rfl
@[simp] theorem State.advance_lastError : (s.advance).lastError = s.lastError := rfl
@[simp] theorem State.advance_mode : (s.advance).mode = s.mode := rfl
@[simp] theorem State.advance_ownAddress : (s.advance).ownAddress = s.ownAddress := rfl
@[simp] theorem State.advance_rxCapacity : (s.advance).rxCapacity = s.rxCapacity := rfl
@[simp] theorem State.advance_clockSpeedHz : (s.advance).clockSpeedHz = s.clockSpeedHz := rfl
@[simp] theorem State.advance_pullupEnabled : (s.advance).pullupEnabled = s.pullupEnabled := rfl
@[simp] theorem State.advance_enabled : (s.advance).enabled = s.enabled := rfl
@[simp] theorem State.advance_rxHandler : (s.advance).rxHandler = s.rxHandler := rfl
@[simp] theorem State.advance_rxHandlerActive : (s.advance).rxHandlerActive = s.rxHandlerActive := rfl
@[simp] theorem State.advance_txProvider : (s.advance).txProvider = s.txProvider := rfl
@[simp] theorem State.advance_maxTxLength : (s.advance).maxTxLength = s.maxTxLength := rfl
@[simp] theorem State.advance_mb : (s.advance).mb = s.mb := rfl
@[simp] theorem State.advance_rxb : (s.advance).rxb = s.rxb := rfl
@[simp] theorem State.advance_txb : (s.advance).txb = s.txb := rfl
@[simp] theorem State.advance_dr : (s.advance).dr = s.dr := rfl
@[simp] theorem State.advance_sr : (s.advance).sr = s.sr := rfl
@[simp] theorem State.advance_txAnswer : (s.advance).txAnswer = s.txAnswer := rfl
@[simp] theorem State.advance_inbox : (s.advance).inbox = s.inbox := rfl
@[simp] theorem State.advance_out : (s.advance).out = s.out := rfl
@[simp] theorem State.advance_accepted : (s.advance).accepted = s.accepted := rfl
@[simp] theorem State.advance_history : (s.advance).history = s.history := rfl

/-! ### `State.endStep` -/

@[simp] theorem State.endStep_config : (s.endStep).config = s.config := rfl
@[simp] theorem State.endStep_role : (s.endStep).role = s.role := rfl
@[simp] theorem State.endStep_peerAddress : (s.endStep).peerAddress = s.peerAddress := rfl
@[simp] theorem State.endStep_cursor : (s.endStep).cursor = s.cursor := rfl
@[simp] theorem State.endStep_length : (s.endStep).length = s.length := rfl
@[simp] theorem State.endStep_lastError : (s.endStep).lastError = s.lastError := rfl
@[simp] theorem State.endStep_mode : (s.endStep).mode = s.mode := rfl
@[simp] theorem State.endStep_ownAddress : (s.endStep).ownAddress = s.ownAddress := rfl
@[simp] theorem State.endStep_rxCapacity : (s.endStep).rxCapacity = s.rxCapacity := rfl
@[simp] theorem State.endStep_clockSpeedHz : (s.endStep).clockSpeedHz = s.clockSpeedHz := rfl
@[simp] theorem State.endStep_pullupEnabled : (s.endStep).pullupEnabled = s.pullupEnabled := rfl
@[simp] theorem State.endStep_enabled : (s.endStep).enabled = s.enabled := rfl
@[simp] theorem State.endStep_rxHandler : (s.endStep).rxHandler = s.rxHandler := rfl
@[simp] theorem State.endStep_rxHandlerActive : (s.endStep).rxHandlerActive = s.rxHandlerActive := rfl
@[simp] theorem State.endStep_txProvider : (s.endStep).txProvider = s.txProvider := rfl
@[simp] theorem State.endStep_maxTxLength : (s.endStep).maxTxLength = s.maxTxLength := rfl
@[simp] theorem State.endStep_mb : (s.endStep).mb = s.mb := rfl
@[simp] theorem State.endStep_rxb : (s.endStep).rxb = s.rxb := rfl
@[simp] theorem State.endStep_txb : (s.endStep).txb = s.txb := rfl
@[simp] theorem State.endStep_dr : (s.endStep).dr = s.dr := rfl
@[simp] theorem State.endStep_sr : (s.endStep).sr = s.sr := rfl
@[simp] theorem State.endStep_txAnswer : (s.endStep).txAnswer = s.txAnswer := rfl
@[simp] theorem State.endStep_inbox : (s.endStep).inbox = s.inbox := rfl
@[simp] theorem State.endStep_out : (s.endStep).out = s.out := rfl
@[simp] theorem State.endStep_accepted : (s.endStep).accepted = s.accepted := rfl
@[simp] theorem State.endStep_history : (s.endStep).history = s.history ++ [⟨s.out, s.accepted⟩] := rfl

/-! ### `State.beginStep` -/

@[simp] theorem State.beginStep_config (p : Packet) (rest : List Packet) : (s.beginStep p rest).config = s.config := by
  cases p <;> rfl
@[simp] theorem State.beginStep_role (p : Packet) (rest : List Packet) : (s.beginStep p rest).role = s.role := by
  cases p <;> rfl
@[simp] theorem State.beginStep_peerAddress (p : Packet) (rest : List Packet) : (s.beginStep p rest).peerAddress = s.peerAddress := by
  cases p <;> rfl
@[simp] theorem State.beginStep_cursor (p : Packet) (rest : List Packet) : (s.beginStep p rest).cursor = s.cursor := by
  cases p <;> rfl
@[simp] theorem State.beginStep_length (p : Packet) (rest : List Packet) : (s.beginStep p rest).length = s.length := by
  cases p <;> rfl
@[simp] theorem State.beginStep_lastError (p : Packet) (rest : List Packet) : (s.beginStep p rest).lastError = s.lastError := by
  cases p <;> rfl
@[simp] theorem State.beginStep_mode (p : Packet) (rest : List Packet) : (s.beginStep p rest).mode = s.mode := by
  cases p <;> rfl
@[simp] theorem State.beginStep_ownAddress (p : Packet) (rest : List Packet) : (s.beginStep p rest).ownAddress = s.ownAddress := by
  cases p <;> rfl
@[simp] theorem State.beginStep_rxCapacity (p : Packet) (rest : List Packet) : (s.beginStep p rest).rxCapacity = s.rxCapacity := by
  cases p <;> rfl
@[simp] theorem State.beginStep_clockSpeedHz (p : Packet) (rest : List Packet) : (s.beginStep p rest).clockSpeedHz = s.clockSpeedHz := by
  cases p <;> rfl
@[simp] theorem State.beginStep_pullupEnabled (p : Packet) (rest : List Packet) : (s.beginStep p rest).pullupEnabled = s.pullupEnabled := by
  cases p <;> rfl
@[simp] theorem State.beginStep_enabled (p : Packet) (rest : List Packet) : (s.beginStep p rest).enabled = s.enabled := by
  cases p <;> rfl
@[simp] theorem State.beginStep_rxHandler (p : Packet) (rest : List Packet) : (s.beginStep p rest).rxHandler = s.rxHandler := by
  cases p <;> rfl
@[simp] theorem State.beginStep_rxHandlerActive (p : Packet) (rest : List Packet) : (s.beginStep p rest).rxHandlerActive = s.rxHandlerActive := by
  cases p <;> rfl
@[simp] theorem State.beginStep_txProvider (p : Packet) (rest : List Packet) : (s.beginStep p rest).txProvider = s.txProvider := by
  cases p <;> rfl
@[simp] theorem State.beginStep_maxTxLength (p : Packet) (rest : List Packet) : (s.beginStep p rest).maxTxLength = s.maxTxLength := by
  cases p <;> rfl
@[simp] theorem State.beginStep_mb (p : Packet) (rest : List Packet) : (s.beginStep p rest).mb = s.mb := by
  cases p <;> rfl
@[simp] theorem State.beginStep_rxb (p : Packet) (rest : List Packet) : (s.beginStep p rest).rxb = s.rxb := by
  cases p <;> rfl
@[simp] theorem State.beginStep_txb (p : Packet) (rest : List Packet) : (s.beginStep p rest).txb = s.txb := by
  cases p <;> rfl
@[simp] theorem State.beginStep_history (p : Packet) (rest : List Packet) : (s.beginStep p rest).history = s.history := by
  cases p <;> rfl
@[simp] theorem State.beginStep_inbox (p : Packet) (rest : List Packet) : (s.beginStep p rest).inbox = rest := by
  cases p <;> rfl
@[simp] theorem State.beginStep_out (p : Packet) (rest : List Packet) : (s.beginStep p rest).out = [] := by
  cases p <;> rfl
@[simp] theorem State.beginStep_accepted (p : Packet) (rest : List Packet) : (s.beginStep p rest).accepted = none := by
  cases p <;> rfl

/-! ### `State.storeByte` -/

@[simp] theorem State.storeByte_config (n : StoreName) (i : Nat) (b : Byte) : (s.storeByte n i b).config = s.config := by
  cases n <;> rfl
@[simp] theorem State.storeByte_role (n : StoreName) (i : Nat) (b : Byte) : (s.storeByte n i b).role = s.role := by
  cases n <;> rfl
@[simp] theorem State.storeByte_peerAddress (n : StoreName) (i : Nat) (b : Byte) : (s.storeByte n i b).peerAddress = s.peerAddress := by
  cases n <;> rfl
@[simp] theorem State.storeByte_cursor (n : StoreName) (i : Nat) (b : Byte) : (s.storeByte n i b).cursor = s.cursor := by
  cases n <;> rfl
@[simp] theorem State.storeByte_length (n : StoreName) (i : Nat) (b : Byte) : (s.storeByte n i b).length = s.length := by
  cases n <;> rfl
@[simp] theorem State.storeByte_lastError (n : StoreName) (i : Nat) (b : Byte) : (s.storeByte n i b).lastError = s.lastError := by
  cases n <;> rfl
@[simp] theorem State.storeByte_mode (n : StoreName) (i : Nat) (b : Byte) : (s.storeByte n i b).mode = s.mode := by
  cases n <;> rfl
@[simp] theorem State.storeByte_ownAddress (n : StoreName) (i : Nat) (b : Byte) : (s.storeByte n i b).ownAddress = s.ownAddress := by
  cases n <;> rfl
@[simp] theorem State.storeByte_rxCapacity (n : StoreName) (i : Nat) (b : Byte) : (s.storeByte n i b).rxCapacity = s.rxCapacity := by
  cases n <;> rfl
@[simp] theorem State.storeByte_clockSpeedHz (n : StoreName) (i : Nat) (b : Byte) : (s.storeByte n i b).clockSpeedHz = s.clockSpeedHz := by
  cases n <;> rfl
@[simp] theorem State.storeByte_pullupEnabled (n : StoreName) (i : Nat) (b : Byte) : (s.storeByte n i b).pullupEnabled = s.pullupEnabled := by
  cases n <;> rfl
@[simp] theorem State.storeByte_enabled (n : StoreName) (i : Nat) (b : Byte) : (s.storeByte n i b).enabled = s.enabled := by
  cases n <;> rfl
@[simp] theorem State.storeByte_rxHandler (n : StoreName) (i : Nat) (b : Byte) : (s.storeByte n i b).rxHandler = s.rxHandler := by
  cases n <;> rfl
@[simp] theorem State.storeByte_rxHandlerActive (n : StoreName) (i : Nat) (b : Byte) : (s.storeByte n i b).rxHandlerActive = s.rxHandlerActive := by
  cases n <;> rfl
@[simp] theorem State.storeByte_txProvider (n : StoreName) (i : Nat) (b : Byte) : (s.storeByte n i b).txProvider = s.txProvider := by
  cases n <;> rfl
@[simp] theorem State.storeByte_maxTxLength (n : StoreName) (i : Nat) (b : Byte) : (s.storeByte n i b).maxTxLength = s.maxTxLength := by
  cases n <;> rfl
@[simp] theorem State.storeByte_mb_mb (i : Nat) (b : Byte) : (s.storeByte .mb i b).mb = s.mb.write i b := rfl
@[simp] theorem State.storeByte_rxb_mb (i : Nat) (b : Byte) : (s.storeByte .rxb i b).mb = s.mb := rfl
@[simp] theorem State.storeByte_txb_mb (i : Nat) (b : Byte) : (s.storeByte .txb i b).mb = s.mb := rfl
@[simp] theorem State.storeByte_rxb_rxb (i : Nat) (b : Byte) : (s.storeByte .rxb i b).rxb = s.rxb.write i b := rfl
@[simp] theorem State.storeByte_mb_rxb (i : Nat) (b : Byte) : (s.storeByte .mb i b).rxb = s.rxb := rfl
@[simp] theorem State.storeByte_txb_rxb (i : Nat) (b : Byte) : (s.storeByte .txb i b).rxb = s.rxb := rfl
@[simp] theorem State.storeByte_txb_txb (i : Nat) (b : Byte) : (s.storeByte .txb i b).txb = s.txb.write i b := rfl
@[simp] theorem State.storeByte_mb_txb (i : Nat) (b : Byte) : (s.storeByte .mb i b).txb = s.txb := rfl
@[simp] theorem State.storeByte_rxb_txb (i : Nat) (b : Byte) : (s.storeByte .rxb i b).txb = s.txb := rfl
@[simp] theorem State.storeByte_dr (n : StoreName) (i : Nat) (b : Byte) : (s.storeByte n i b).dr = s.dr := by
  cases n <;> rfl
@[simp] theorem State.storeByte_sr (n : StoreName) (i : Nat) (b : Byte) : (s.storeByte n i b).sr = s.sr := by
  cases n <;> rfl
@[simp] theorem State.storeByte_txAnswer (n : StoreName) (i : Nat) (b : Byte) : (s.storeByte n i b).txAnswer = s.txAnswer := by
  cases n <;> rfl
@[simp] theorem State.storeByte_inbox (n : StoreName) (i : Nat) (b : Byte) : (s.storeByte n i b).inbox = s.inbox := by
  cases n <;> rfl
@[simp] theorem State.storeByte_out (n : StoreName) (i : Nat) (b : Byte) : (s.storeByte n i b).out = s.out := by
  cases n <;> rfl
@[simp] theorem State.storeByte_accepted (n : StoreName) (i : Nat) (b : Byte) : (s.storeByte n i b).accepted = s.accepted := by
  cases n <;> rfl
@[simp] theorem State.storeByte_history (n : StoreName) (i : Nat) (b : Byte) : (s.storeByte n i b).history = s.history := by
  cases n <;> rfl

end Sys2Proof.Machine
end

