-- ==== Sys2Proof/Laws/Ops.lean ====
section
/-! SUPPORT. One lemma for each shared operation, saying once everything it can do, and the inversion
of the step. -/

namespace Sys2Proof.Machine

variable {s t : State}

/-- Load-and-send (R55) goes on exactly when the store holds a byte at the cursor. -/
theorem loadAndSend_eq_next {n : StoreName} {k : State → State} :
    s.loadAndSend n k = .next t ↔
      ∃ b, (s.store n).read s.cursor = some b ∧ t = k (s.advance.writeData b) := by
  unfold State.loadAndSend
  split <;> rename_i h <;> simp [h, eq_comm]

theorem loadAndSend_of_byte {n : StoreName} {k : State → State} {b : Byte}
    (h : (s.store n).read s.cursor = some b) :
    s.loadAndSend n k = .next (k (s.advance.writeData b)) := by
  simp [State.loadAndSend, h]

theorem loadAndSend_of_none {n : StoreName} {k : State → State}
    (h : (s.store n).read s.cursor = none) : s.loadAndSend n k = .fault (.noByte n s.cursor) := by
  simp [State.loadAndSend, h]

/-- The byte-acknowledged event (R92, R93): a byte is sent, or the transaction ends. -/
theorem sendNext_eq_next :
    s.sendNext = .next t ↔
      (s.cursor < s.length ∧ ∃ b, s.mb.read s.cursor = some b ∧
        t = (s.advance.writeData b).emit .nextAck) ∨
      (¬ s.cursor < s.length ∧ t = (s.emit .stop).terminate) := by
  unfold State.sendNext
  split <;> rename_i h
  · simp [loadAndSend_eq_next, h, State.store]
  · simp [h, eq_comm]

/-- The send step of slave-transmit (R120). -/
theorem sendSlave_eq_next :
    s.sendSlave = .next t ↔
      (s.cursor < s.length ∧ ∃ b, s.txb.read s.cursor = some b ∧
        t = (s.advance.writeData b).announce) ∨
      (¬ s.cursor < s.length ∧ t = s.emit .nextNack) := by
  unfold State.sendSlave
  split <;> rename_i h
  · simp [loadAndSend_eq_next, h, State.store]
  · simp [h, eq_comm]

/-- `mr_reply()` (R102): one control operation, and the terminal edge when nothing remains. -/
theorem reply_cases (s : State) :
    (1 < s.length - s.cursor ∧ s.reply = s.emit .nextAck) ∨
    (s.length - s.cursor = 1 ∧ s.reply = s.emit .nextNack) ∨
    (s.length ≤ s.cursor ∧ s.reply = (s.emit .stop).terminate) := by
  unfold State.reply
  split
  · exact .inl ⟨by assumption, rfl⟩
  · split
    · exact .inr (.inl ⟨by assumption, rfl⟩)
    · exact .inr (.inr ⟨by omega, rfl⟩)

/-- The master-receive data step (R104, R105). -/
theorem receive_cases (s : State) :
    (s.cursor < s.length ∧ s.receive = (s.readData.storeByte .mb s.cursor s.dr).advance) ∨
    (s.length ≤ s.cursor ∧ s.receive = s.readData) := by
  unfold State.receive
  split
  · exact .inl ⟨by assumption, rfl⟩
  · exact .inr ⟨by omega, rfl⟩

/-- `sr_data()` (R112): one test decides both the store and the reply. -/
theorem receiveSlave_cases (s : State) :
    (s.cursor < s.rxCapacity ∧
      s.receiveSlave = ((s.readData.storeByte .rxb s.cursor s.dr).advance).emit .nextAck) ∨
    (s.rxCapacity ≤ s.cursor ∧ s.receiveSlave = s.readData.emit .nextNack) := by
  unfold State.receiveSlave
  split
  · exact .inl ⟨by assumption, rfl⟩
  · exact .inr ⟨by omega, rfl⟩

/-- What the provider's answer leaves (R121). -/
theorem obtainBytes_cases (s : State) :
    (∃ p, s.txProvider = some p ∧ s.obtainBytes =
      { s.callProvider p with
        txb := Memory.ofBytes s.txAnswer, length := min s.txAnswer.length s.maxTxLength }) ∨
    (s.txProvider = none ∧ s.obtainBytes = { s with txb := [], length := 0 }) := by
  unfold State.obtainBytes
  split <;> rename_i h
  · exact .inl ⟨_, h, rfl⟩
  · exact .inr ⟨h, rfl⟩

theorem leave_eq_next {r : Result} : leave r = .next t ↔ ∃ u, r = .next u ∧ t = u.endStep := by
  cases r <;> simp [leave, eq_comm]

/-- A step without input changes nothing (R169). -/
theorem step_nil (h : s.inbox = []) : step s = .next s := by simp [step, h]

/-- A step runs the decoded instruction (R167). -/
theorem step_ok {p : Packet} {rest : List Packet} {i : Instr} (h : s.inbox = p :: rest)
    (hd : decoded s p rest = .ok i) : step s = leave (exec i (s.beginStep p rest)) := by
  unfold decoded at hd
  simp only [step, h, hd]

/-- A step rejects a word that is no instruction, by name. -/
theorem step_error {p : Packet} {rest : List Packet} {r : Reject} (h : s.inbox = p :: rest)
    (hd : decoded s p rest = .error r) : step s = (s.beginStep p rest).reject r := by
  unfold decoded at hd
  simp only [step, h, hd]

theorem reject_ne_next {r : Reject} : s.reject r ≠ .next t := by
  cases r <;> simp [State.reject, State.raiseViolation]

/-- Everything a step that goes on can have done. -/
theorem step_eq_next :
    step s = .next t ↔
      (s.inbox = [] ∧ t = s) ∨
      ∃ p rest i u, s.inbox = p :: rest ∧ decoded s p rest = .ok i ∧
        exec i (s.beginStep p rest) = .next u ∧ t = u.endStep := by
  rcases hin : s.inbox with _ | ⟨p, rest⟩
  · simp [step_nil hin, eq_comm]
  · cases hd : decoded s p rest with
    | error r => simp [step_error hin hd, reject_ne_next, hd]
    | ok i => simp [step_ok hin hd, leave_eq_next, hd]

/-- The decoder gives only well-formed instructions (dispatches have no operands). -/
theorem checkOperands_ok {cfg : Config} {i j : Instr} (h : checkOperands cfg i = .ok j) :
    j = i ∧ wellFormed cfg i = true := by
  unfold checkOperands at h
  split at h
  · simp at h; exact ⟨h.symm, by assumption⟩
  · simp at h

/-- The one way the check of the operands rejects. -/
theorem checkOperands_error {cfg : Config} {i : Instr} {r : Reject}
    (h : checkOperands cfg i = .error r) : r = .illFormed i.mnemonic ∧ wellFormed cfg i = false := by
  unfold checkOperands at h
  by_cases hw : wellFormed cfg i = true
  · simp [hw] at h
  · simp [hw] at h
    exact ⟨h.symm, by simpa using hw⟩

/-- The role code of R63 names the role. -/
@[simp] theorem ofCode_code (r : Role) : Role.ofCode r.code = some r := by cases r <;> rfl

/-- Entering a step borrows nothing and gives nothing back (R53). -/
@[simp] theorem State.beginStep_borrowed (p : Packet) (rest : List Packet) (s : State) :
    (s.beginStep p rest).borrowed = s.borrowed := by cases p <;> rfl

/-- Leaving a step borrows nothing and gives nothing back (R53). -/
@[simp] theorem State.endStep_borrowed (s : State) : s.endStep.borrowed = s.borrowed := rfl

end Sys2Proof.Machine
end

