-- ==== Sys2Proof/Laws/PerInstr.lean ====
section
/-! SUPPORT. For every instruction: its encoded word matches the row of the opcode table that has its
mnemonic, and no other row of its format. -/

namespace Sys2Proof.Laws

/-- The numeric part of a word. -/
def wordBits : Word → Nat
  | .dispatch d => d.toNat
  | .command cop _ => cop.toNat
  | .operation bop _ => bop.toNat

/-- The opcode-table rows of a word's format. -/
def rowsOf : Word → List Row
  | .dispatch _ => dispatchRows
  | .command _ _ => commandRows
  | .operation _ _ => operationRows

/-- The word of the instruction matches the one row of its format that has its mnemonic. -/
def RowMatch.Statement (i : Instr) : Prop :=
  matchingRows (rowsOf (encode i)) (wordBits (encode i)) = [i.mnemonic]

theorem RowMatch.anyBusError : RowMatch.Statement .anyBusError := by
  show matchingRows dispatchRows 0x000 = ["ANY.BUS_ERROR"]
  decide

theorem RowMatch.anyArbLost : RowMatch.Statement .anyArbLost := by
  show matchingRows dispatchRows 0x038 = ["ANY.ARB_LOST"]
  decide

theorem RowMatch.anyNoInfo : RowMatch.Statement .anyNoInfo := by
  show matchingRows dispatchRows 0x0F8 = ["ANY.NO_INFO"]
  decide

theorem RowMatch.idleSrSlaAck : RowMatch.Statement .idleSrSlaAck := by
  show matchingRows dispatchRows 0x060 = ["IDLE.SR_SLA_ACK"]
  decide

theorem RowMatch.idleSrGcallAck : RowMatch.Statement .idleSrGcallAck := by
  show matchingRows dispatchRows 0x070 = ["IDLE.SR_GCALL_ACK"]
  decide

theorem RowMatch.idleStSlaAck : RowMatch.Statement .idleStSlaAck := by
  show matchingRows dispatchRows 0x0A8 = ["IDLE.ST_SLA_ACK"]
  decide

theorem RowMatch.mtStart : RowMatch.Statement .mtStart := by
  show matchingRows dispatchRows 0x108 = ["MT.START"]
  decide

theorem RowMatch.mtRepStart : RowMatch.Statement .mtRepStart := by
  show matchingRows dispatchRows 0x110 = ["MT.REP_START"]
  decide

theorem RowMatch.mtSlaAck : RowMatch.Statement .mtSlaAck := by
  show matchingRows dispatchRows 0x118 = ["MT.SLA_ACK"]
  decide

theorem RowMatch.mtSlaNack : RowMatch.Statement .mtSlaNack := by
  show matchingRows dispatchRows 0x120 = ["MT.SLA_NACK"]
  decide

theorem RowMatch.mtDataAck : RowMatch.Statement .mtDataAck := by
  show matchingRows dispatchRows 0x128 = ["MT.DATA_ACK"]
  decide

theorem RowMatch.mtDataNack : RowMatch.Statement .mtDataNack := by
  show matchingRows dispatchRows 0x130 = ["MT.DATA_NACK"]
  decide

theorem RowMatch.mrStart : RowMatch.Statement .mrStart := by
  show matchingRows dispatchRows 0x208 = ["MR.START"]
  decide

theorem RowMatch.mrRepStart : RowMatch.Statement .mrRepStart := by
  show matchingRows dispatchRows 0x210 = ["MR.REP_START"]
  decide

theorem RowMatch.mrSlaAck : RowMatch.Statement .mrSlaAck := by
  show matchingRows dispatchRows 0x240 = ["MR.SLA_ACK"]
  decide

theorem RowMatch.mrSlaNack : RowMatch.Statement .mrSlaNack := by
  show matchingRows dispatchRows 0x248 = ["MR.SLA_NACK"]
  decide

theorem RowMatch.mrDataAck : RowMatch.Statement .mrDataAck := by
  show matchingRows dispatchRows 0x250 = ["MR.DATA_ACK"]
  decide

theorem RowMatch.mrDataNack : RowMatch.Statement .mrDataNack := by
  show matchingRows dispatchRows 0x258 = ["MR.DATA_NACK"]
  decide

theorem RowMatch.srDataAck : RowMatch.Statement .srDataAck := by
  show matchingRows dispatchRows 0x380 = ["SR.DATA_ACK"]
  decide

theorem RowMatch.srDataNack : RowMatch.Statement .srDataNack := by
  show matchingRows dispatchRows 0x388 = ["SR.DATA_NACK"]
  decide

theorem RowMatch.srGcallDataAck : RowMatch.Statement .srGcallDataAck := by
  show matchingRows dispatchRows 0x390 = ["SR.GCALL_DATA_ACK"]
  decide

theorem RowMatch.srGcallDataNack : RowMatch.Statement .srGcallDataNack := by
  show matchingRows dispatchRows 0x398 = ["SR.GCALL_DATA_NACK"]
  decide

theorem RowMatch.srStop : RowMatch.Statement .srStop := by
  show matchingRows dispatchRows 0x3A0 = ["SR.STOP"]
  decide

theorem RowMatch.stDataAck : RowMatch.Statement .stDataAck := by
  show matchingRows dispatchRows 0x4B8 = ["ST.DATA_ACK"]
  decide

theorem RowMatch.stDataNack : RowMatch.Statement .stDataNack := by
  show matchingRows dispatchRows 0x4C0 = ["ST.DATA_NACK"]
  decide

theorem RowMatch.stLastData : RowMatch.Statement .stLastData := by
  show matchingRows dispatchRows 0x4C8 = ["ST.LAST_DATA"]
  decide

theorem RowMatch.init (mode : Mode) (clock : Nat) (own : BusAddress) (cap : Nat) (pullup : Bool) :
    RowMatch.Statement (.init mode clock own cap pullup) := by
  show matchingRows commandRows 0x0 = ["INIT"]
  decide

theorem RowMatch.disable : RowMatch.Statement .disable := by
  show matchingRows commandRows 0x1 = ["DISABLE"]
  decide

theorem RowMatch.sendTo (address : BusAddress) (data : List Byte) (length : Nat) :
    RowMatch.Statement (.sendTo address data length) := by
  show matchingRows commandRows 0x2 = ["SEND_TO"]
  decide

theorem RowMatch.readFrom (address : BusAddress) (buffer : List Byte) (length : Nat) :
    RowMatch.Statement (.readFrom address buffer length) := by
  show matchingRows commandRows 0x3 = ["READ_FROM"]
  decide

theorem RowMatch.setRxHandler (h : CallbackId) :
    RowMatch.Statement (.setRxHandler h) := by
  show matchingRows commandRows 0x4 = ["SET_RX_HANDLER"]
  decide

theorem RowMatch.setTxProvider (p : CallbackId) (maxLength : Nat) :
    RowMatch.Statement (.setTxProvider p maxLength) := by
  show matchingRows commandRows 0x5 = ["SET_TX_PROVIDER"]
  decide

theorem RowMatch.opNone : RowMatch.Statement .opNone := by
  show matchingRows operationRows 0x0 = ["NONE"]
  decide

theorem RowMatch.opStart : RowMatch.Statement .opStart := by
  show matchingRows operationRows 0x1 = ["START"]
  decide

theorem RowMatch.opStop : RowMatch.Statement .opStop := by
  show matchingRows operationRows 0x2 = ["STOP"]
  decide

theorem RowMatch.opNextAck : RowMatch.Statement .opNextAck := by
  show matchingRows operationRows 0x3 = ["NEXT_ACK"]
  decide

theorem RowMatch.opNextNack : RowMatch.Statement .opNextNack := by
  show matchingRows operationRows 0x4 = ["NEXT_NACK"]
  decide

theorem RowMatch.opRelease : RowMatch.Statement .opRelease := by
  show matchingRows operationRows 0x5 = ["RELEASE"]
  decide

theorem RowMatch.opWrData (b : Byte) :
    RowMatch.Statement (.opWrData b) := by
  show matchingRows operationRows 0x6 = ["WR_DATA"]
  decide

theorem RowMatch.opRdData : RowMatch.Statement .opRdData := by
  show matchingRows operationRows 0x7 = ["RD_DATA"]
  decide

theorem RowMatch.opEnable : RowMatch.Statement .opEnable := by
  show matchingRows operationRows 0x8 = ["ENABLE"]
  decide

theorem RowMatch.opDisableBc : RowMatch.Statement .opDisableBc := by
  show matchingRows operationRows 0x9 = ["DISABLE_BC"]
  decide

theorem RowMatch.opSetOwnAddr (a : BusAddress) :
    RowMatch.Statement (.opSetOwnAddr a) := by
  show matchingRows operationRows 0xA = ["SET_OWN_ADDR"]
  decide

theorem RowMatch.opSetClockDiv (v : Nat) :
    RowMatch.Statement (.opSetClockDiv v) := by
  show matchingRows operationRows 0xB = ["SET_CLOCK_DIV"]
  decide

theorem RowMatch.opCallRx (h : CallbackId) (bytes : List Byte) (n : Nat) :
    RowMatch.Statement (.opCallRx h bytes n) := by
  show matchingRows operationRows 0xC = ["CALL_RX"]
  decide

theorem RowMatch.opCallTx (p : CallbackId) :
    RowMatch.Statement (.opCallTx p) := by
  show matchingRows operationRows 0xD = ["CALL_TX"]
  decide

end Sys2Proof.Laws
end

