-- ==== Sys2Proof/Tests/Slice0.lean ====
section
/-! SUPPORT. The model's own tests.  Every expected result is from the spec: the vectors of
spec/95_test_vectors.md (named V-...), the examples of the rules, and the encodings of R62 to R69.  The
witnesses show that the hypotheses of each statement can be met, one for each clause. -/

namespace Sys2Proof.Tests

open Sys2Proof Sys2Proof.Machine

/-! ## Helpers -/

/-- The output list of a result that is a next state. -/
def outOf : Result → Option (List Op)
  | .next t => some t.out
  | .fault _ => none
  | .refused _ => none

/-- A field of a result that is a next state. -/
def fieldOf {α : Type} (f : State → α) : Result → Option α
  | .next t => some (f t)
  | .fault _ => none
  | .refused _ => none

/-- The fault of a result that is one. -/
def faultOf : Result → Option Fault
  | .next _ => none
  | .fault r => some r
  | .refused _ => none

/-- The refusal of a result that is one. -/
def refusalOf : Result → Option Refusal
  | .next _ => none
  | .fault _ => none
  | .refused r => some r

/-- One step on one interrupt: the line `EV status dr=b tx=answer` of the trace notation (R72). -/
def ev (s : State) (status : BitVec 8) (b : Byte := 0) (answer : List Byte := []) : Result :=
  step { s with inbox := [.interrupt status b answer] }

/-- One step on one command. -/
def cmd (s : State) (cop : BitVec 3) (args : CommandArgs) : Result :=
  step { s with inbox := [.command cop args] }

/-- The start state M0 of the vectors: reset, then `INIT mode=Master clock=100000 cap=0 pullup=1`. -/
def m0 : State := { State.reset with clockSpeedHz := 100000, pullupEnabled := true, enabled := true }

/-- The start state S0(c) of the vectors: reset, then `INIT mode=Slave own=0x22 cap=c pullup=1`. -/
def s0 (c : Nat) : State :=
  { State.reset with mode := .slave, ownAddress := 0x22, rxCapacity := c, pullupEnabled := true, enabled := true }

/-- A send in flight, of `data` to address `a`, with `k` bytes sent. -/
def sending (a : BusAddress) (data : List Byte) (k : Nat) : State :=
  { m0 with
    role := .masterTransmit, peerAddress := a, mb := Memory.ofBytes data, cursor := k, length := data.length }

/-- A read in flight, into `buffer` from address `a`, with `k` bytes received. -/
def reading (a : BusAddress) (buffer : List Byte) (k : Nat) : State :=
  { m0 with
    role := .masterReceive, peerAddress := a, mb := Memory.ofBytes buffer, cursor := k, length := buffer.length }

/-- A slave-receive transaction in flight, with capacity `c`, handler 1 and the bytes `got` stored. -/
def receiving (c : Nat) (got : List Byte) : State :=
  { s0 c with
    role := .slaveReceive, rxHandler := some 1, rxHandlerActive := some 1, rxb := Memory.ofBytes got
    cursor := got.length, length := c }

/-- A slave-transmit transaction in flight, of the bytes `tx`, with `k` of them sent. -/
def transmitting (tx : List Byte) (k : Nat) : State :=
  { s0 8 with
    role := .slaveTransmit, txProvider := some 1, maxTxLength := 4, txb := Memory.ofBytes tx
    cursor := k, length := tx.length }

/-! ## Decoding: every constructor, by a word written out from the spec's encoding

A dispatch word is `role[2:0] : status[7:0]` (R64), the role code from R63, the status code from R62. -/

theorem test_decode_anyBusError : decode Config.standard (.dispatch (0b011#3 ++ 0b00000000#8)) = .ok .anyBusError := by decide

theorem test_decode_anyArbLost : decode Config.standard (.dispatch (0b100#3 ++ 0b00111000#8)) = .ok .anyArbLost := by decide

theorem test_decode_anyNoInfo : decode Config.standard (.dispatch (0b000#3 ++ 0b11111000#8)) = .ok .anyNoInfo := by decide

theorem test_decode_idleSrSlaAck : decode Config.standard (.dispatch (0b000#3 ++ 0b01100000#8)) = .ok .idleSrSlaAck := by decide

theorem test_decode_idleSrGcallAck : decode Config.standard (.dispatch (0b000#3 ++ 0b01110000#8)) = .ok .idleSrGcallAck := by decide

theorem test_decode_idleStSlaAck : decode Config.standard (.dispatch (0b000#3 ++ 0b10101000#8)) = .ok .idleStSlaAck := by decide

theorem test_decode_mtStart : decode Config.standard (.dispatch (0b001#3 ++ 0b00001000#8)) = .ok .mtStart := by decide

theorem test_decode_mtRepStart : decode Config.standard (.dispatch (0b001#3 ++ 0b00010000#8)) = .ok .mtRepStart := by decide

theorem test_decode_mtSlaAck : decode Config.standard (.dispatch (0b001#3 ++ 0b00011000#8)) = .ok .mtSlaAck := by decide

theorem test_decode_mtSlaNack : decode Config.standard (.dispatch (0b001#3 ++ 0b00100000#8)) = .ok .mtSlaNack := by decide

theorem test_decode_mtDataAck : decode Config.standard (.dispatch (0b001#3 ++ 0b00101000#8)) = .ok .mtDataAck := by decide

theorem test_decode_mtDataNack : decode Config.standard (.dispatch (0b001#3 ++ 0b00110000#8)) = .ok .mtDataNack := by decide

theorem test_decode_mrStart : decode Config.standard (.dispatch (0b010#3 ++ 0b00001000#8)) = .ok .mrStart := by decide

theorem test_decode_mrRepStart : decode Config.standard (.dispatch (0b010#3 ++ 0b00010000#8)) = .ok .mrRepStart := by decide

theorem test_decode_mrSlaAck : decode Config.standard (.dispatch (0b010#3 ++ 0b01000000#8)) = .ok .mrSlaAck := by decide

theorem test_decode_mrSlaNack : decode Config.standard (.dispatch (0b010#3 ++ 0b01001000#8)) = .ok .mrSlaNack := by decide

theorem test_decode_mrDataAck : decode Config.standard (.dispatch (0b010#3 ++ 0b01010000#8)) = .ok .mrDataAck := by decide

theorem test_decode_mrDataNack : decode Config.standard (.dispatch (0b010#3 ++ 0b01011000#8)) = .ok .mrDataNack := by decide

theorem test_decode_srDataAck : decode Config.standard (.dispatch (0b011#3 ++ 0b10000000#8)) = .ok .srDataAck := by decide

theorem test_decode_srDataNack : decode Config.standard (.dispatch (0b011#3 ++ 0b10001000#8)) = .ok .srDataNack := by decide

theorem test_decode_srGcallDataAck : decode Config.standard (.dispatch (0b011#3 ++ 0b10010000#8)) = .ok .srGcallDataAck := by decide

theorem test_decode_srGcallDataNack : decode Config.standard (.dispatch (0b011#3 ++ 0b10011000#8)) = .ok .srGcallDataNack := by decide

theorem test_decode_srStop : decode Config.standard (.dispatch (0b011#3 ++ 0b10100000#8)) = .ok .srStop := by decide

theorem test_decode_stDataAck : decode Config.standard (.dispatch (0b100#3 ++ 0b10111000#8)) = .ok .stDataAck := by decide

theorem test_decode_stDataNack : decode Config.standard (.dispatch (0b100#3 ++ 0b11000000#8)) = .ok .stDataNack := by decide

theorem test_decode_stLastData : decode Config.standard (.dispatch (0b100#3 ++ 0b11001000#8)) = .ok .stLastData := by decide

theorem test_decode_init :
    decode Config.standard (.command 0b000 { mode := 0b1, clockSpeedHz := 7, ownAddress := 0x22, receiveBufferCapacity := 8, pullupEnabled := true }) = .ok (.init .slave 7 0x22 8 true) := by decide

theorem test_decode_disable :
    decode Config.standard (.command 0b001 {}) = .ok (.disable) := by decide

theorem test_decode_sendTo :
    decode Config.standard (.command 0b010 { address := 0x50, bytes := [1, 2, 3], length := 3 }) = .ok (.sendTo 0x50 [1, 2, 3] 3) := by decide

theorem test_decode_readFrom :
    decode Config.standard (.command 0b011 { address := 0x51, bytes := [4, 5], length := 2 }) = .ok (.readFrom 0x51 [4, 5] 2) := by decide

theorem test_decode_setRxHandler :
    decode Config.standard (.command 0b100 { callback := 6 }) = .ok (.setRxHandler 6) := by decide

theorem test_decode_setTxProvider :
    decode Config.standard (.command 0b101 { callback := 7, maxLength := 4 }) = .ok (.setTxProvider 7 4) := by decide

theorem test_decode_opNone :
    decode Config.standard (.operation 0b0000 {}) = .ok (.opNone) := by decide

theorem test_decode_opStart :
    decode Config.standard (.operation 0b0001 {}) = .ok (.opStart) := by decide

theorem test_decode_opStop :
    decode Config.standard (.operation 0b0010 {}) = .ok (.opStop) := by decide

theorem test_decode_opNextAck :
    decode Config.standard (.operation 0b0011 {}) = .ok (.opNextAck) := by decide

theorem test_decode_opNextNack :
    decode Config.standard (.operation 0b0100 {}) = .ok (.opNextNack) := by decide

theorem test_decode_opRelease :
    decode Config.standard (.operation 0b0101 {}) = .ok (.opRelease) := by decide

theorem test_decode_opWrData :
    decode Config.standard (.operation 0b0110 { arg := 0xA0 }) = .ok (.opWrData 0xA0) := by decide

theorem test_decode_opRdData :
    decode Config.standard (.operation 0b0111 {}) = .ok (.opRdData) := by decide

theorem test_decode_opEnable :
    decode Config.standard (.operation 0b1000 {}) = .ok (.opEnable) := by decide

theorem test_decode_opDisableBc :
    decode Config.standard (.operation 0b1001 {}) = .ok (.opDisableBc) := by decide

theorem test_decode_opSetOwnAddr :
    decode Config.standard (.operation 0b1010 { arg := 0b10100010 }) = .ok (.opSetOwnAddr 0x22) := by decide

theorem test_decode_opSetClockDiv :
    decode Config.standard (.operation 0b1011 { value := 72 }) = .ok (.opSetClockDiv 72) := by decide

theorem test_decode_opCallRx :
    decode Config.standard (.operation 0b1100 { callback := 1, bytes := [0x11, 0x22], count := 2 }) = .ok (.opCallRx 1 [0x11, 0x22] 2) := by decide

theorem test_decode_opCallTx :
    decode Config.standard (.operation 0b1101 { callback := 1 }) = .ok (.opCallTx 1) := by decide

/-! ## Words that are no instruction (R70) -/

/-- V-EN-11, V-EN-16, V-EN-19, V-EN-20, V-EN-21. -/
theorem test_decode_undefined :
    decode Config.standard (.dispatch 0x228) = .error (.undefinedDispatch 0x228) ∧
    decode Config.standard (.dispatch 0x360) = .error (.undefinedDispatch 0x360) ∧
    decode Config.standard (.dispatch 0x168) = .error (.undefinedDispatch 0x168) ∧
    decode Config.standard (.dispatch 0x429) = .error (.undefinedDispatch 0x429) ∧
    decode Config.standard (.dispatch 0x008) = .error (.undefinedDispatch 0x008) := by decide

/-- R70 (c), (d). -/
theorem test_decode_reserved :
    decode Config.standard (.command 6 {}) = .error (.reservedCommand 6) ∧
    decode Config.standard (.command 7 {}) = .error (.reservedCommand 7) ∧
    decode Config.standard (.operation 14 {}) = .error (.reservedOperation 14) ∧
    decode Config.standard (.operation 15 {}) = .error (.reservedOperation 15) := by decide

/-- V-OP-1 to V-OP-13: the codes of the output alphabet. -/
theorem test_operation_codes :
    (Op.start.encode.1, Op.stop.encode.1, Op.nextAck.encode.1, Op.nextNack.encode.1, Op.release.encode.1)
      = (1, 2, 3, 4, 5) ∧
    (Op.wrData 0xA0).encode = (6, { arg := 0xA0 }) ∧
    (Op.rdData.encode.1, Op.enable.encode.1, Op.disableBc.encode.1) = (7, 8, 9) ∧
    (Op.setOwnAddr 0x22).encode = (10, { arg := 0x22 }) ∧ (Op.setClockDiv 5).encode.1 = 11 ∧
    (Op.callRx 1 [0x11, 0x22] 2).encode = (12, { callback := 1, bytes := [0x11, 0x22], count := 2 }) ∧
    (Op.callTx 1).encode = (13, { callback := 1 }) := by decide

/-- R67: the error codes. -/
theorem test_error_codes :
    (ErrorCode.ok.code, ErrorCode.missingAck.code, ErrorCode.lostArbitration.code, ErrorCode.busError.code)
      = (0, 1, 2, 3) := by decide

/-- V-EN-1 to V-EN-8: the address byte. -/
theorem test_address_bytes :
    (addressByte 0x00 0, addressByte 0x00 1, addressByte 0x50 0, addressByte 0x50 1)
      = (0x00, 0x01, 0xA0, 0xA1) ∧
    (addressByte 0x22 0, addressByte 0x7F 0, addressByte 0x7F 1, addressByte 0x40 1)
      = (0x44, 0xFE, 0xFF, 0x81) := by decide

/-! ## Well-formedness: for each check a term that it refuses, beside one at the bound that passes -/

theorem test_wellFormed_sendTo_count :
    wellFormed { Config.standard with cntMax := 2 } (.sendTo 0x50 [1, 2, 3] 3) = false ∧
    wellFormed { Config.standard with cntMax := 2 } (.sendTo 0x50 [1, 2, 3] 2) = true := by decide

theorem test_wellFormed_sendTo_data :
    wellFormed Config.standard (.sendTo 0x50 [1, 2] 3) = false ∧
    wellFormed Config.standard (.sendTo 0x50 [1, 2, 3] 3) = true := by decide

theorem test_wellFormed_readFrom_count :
    wellFormed { Config.standard with cntMax := 2 } (.readFrom 0x50 [1, 2, 3] 3) = false ∧
    wellFormed { Config.standard with cntMax := 2 } (.readFrom 0x50 [1, 2, 3] 2) = true := by decide

theorem test_wellFormed_readFrom_buffer :
    wellFormed Config.standard (.readFrom 0x50 [] 1) = false ∧
    wellFormed Config.standard (.readFrom 0x50 [] 0) = true := by decide

theorem test_wellFormed_setTxProvider :
    wellFormed Config.standard (.setTxProvider 1 256) = false ∧
    wellFormed Config.standard (.setTxProvider 1 255) = true := by decide

theorem test_wellFormed_opCallRx_count :
    wellFormed { Config.standard with cntMax := 1 } (.opCallRx 1 [1, 2] 2) = false ∧
    wellFormed { Config.standard with cntMax := 1 } (.opCallRx 1 [1] 1) = true := by decide

theorem test_wellFormed_opCallRx_bytes :
    wellFormed Config.standard (.opCallRx 1 [1, 2] 1) = false ∧
    wellFormed Config.standard (.opCallRx 1 [1, 2] 2) = true := by decide

/-! ## Table words -/

/-- A dispatch word of the table is the first instruction that a step runs after it is placed. -/
theorem test_withFetchWord_dispatch :
    decodeTableWord 16 0x240 = some .mrSlaAck ∧ decodeTableWord 8 0xF8 = some .anyNoInfo ∧
    outOf (step (State.reset.withFetchWord 16 0x240)) = some [.stop] ∧
    fieldOf State.role (step (State.reset.withFetchWord 16 0x240)) = some .idle := by decide

/-- The same for a command and an operation. -/
theorem test_withFetchWord_command :
    decodeTableWord 8 1 = some .disable ∧ outOf (step (State.reset.withFetchWord 8 1)) = some [.disableBc] ∧
    decodeTableWord 8 8 = some .opEnable ∧ outOf (step (State.reset.withFetchWord 8 8)) = some [.enable] := by
  decide

/-! ## Byte stores (R40) -/

/-- A write keeps the indices rising and replaces the byte at its own index. -/
theorem test_memory :
    (Memory.write [(0, 9), (3, 9)] 1 5, Memory.write [(0, 9), (3, 9)] 3 5) =
      ([(0, 9), (1, 5), (3, 9)], [(0, 9), (3, 5)]) ∧
    Memory.bytes [(0, 1), (1, 2), (3, 4)] 2 = some [1, 2] ∧ Memory.bytes [(0, 1), (1, 2), (3, 4)] 3 = none := by
  decide

/-! ## Host commands (spec/40_facade_commands.md) -/

/-- V-CMD-4 and the standard start state M0, and V-CMD-14, V-CMD-20: the two modes of `INIT`. -/
theorem test_init_accepted :
    outOf (cmd State.reset 0 { clockSpeedHz := 400000 }) = some [.setClockDiv 400000, .enable] ∧
    fieldOf (fun t => (t.enabled, t.clockSpeedHz)) (cmd State.reset 0 { clockSpeedHz := 400000 })
      = some (true, 400000) ∧
    outOf (cmd (s0 8) 0 { mode := 1, ownAddress := 0x23, receiveBufferCapacity := 4 })
      = some [.setOwnAddr 0x23, .enable] ∧
    fieldOf (fun t => (t.rxHandler, t.txProvider, t.maxTxLength, t.rxCapacity))
      (cmd { s0 8 with rxHandler := some 1, txProvider := some 1, maxTxLength := 3 } 0
        { mode := 1, ownAddress := 0x23, receiveBufferCapacity := 4 }) = some (some 1, some 1, 3, 4) := by
  decide

/-- V-CMD-3, V-CMD-10, V-CMD-13: `INIT` refused, for the clock, for the role, for the capacity. -/
theorem test_init_refused :
    fieldOf (fun t => (t.enabled, t.out)) (cmd State.reset 0 { clockSpeedHz := 400001 }) = some (false, []) ∧
    fieldOf (fun t => (t.mode, t.out)) (cmd (sending 0x50 [1] 0) 0 { mode := 1, ownAddress := 1 })
      = some (.master, []) ∧
    fieldOf (fun t => (t.mode, t.out))
      (cmd m0 0 { mode := 1, ownAddress := 0x22, receiveBufferCapacity := 300 }) = some (.master, []) := by
  decide

/-- V-CMD-11: the transaction in flight is abandoned; the context is kept. -/
theorem test_disable_in_flight :
    outOf (cmd (sending 0x50 [1, 2] 1) 1 {}) = some [.disableBc] ∧
    fieldOf (fun t => (t.role, t.enabled, t.cursor, t.length, t.peerAddress)) (cmd (sending 0x50 [1, 2] 1) 1 {})
      = some (.idle, false, 1, 2, 0x50) := by decide

/-- V-CMD-17: a second `DISABLE` emits again. -/
theorem test_disable_again : outOf (cmd { s0 8 with enabled := false } 1 {}) = some [.disableBc] := by decide

/-- V-CMD-7, V-CMD-18: an accepted `SEND_TO`. -/
theorem test_sendTo_accepted :
    outOf (cmd m0 2 { address := 0x50, bytes := [1], length := 1 }) = some [.start] ∧
    fieldOf (fun t => (t.accepted, t.role, t.peerAddress, t.length))
      (cmd m0 2 { address := 0x50, bytes := [1], length := 1 }) = some (some true, .masterTransmit, 0x50, 1) ∧
    fieldOf State.mb (cmd m0 2 { address := 0x50, bytes := [1, 9], length := 1 }) = some [(0, 1)] := by decide

/-- V-CMD-1, V-CMD-8, V-CMD-15: `SEND_TO` dropped, disabled, busy, in Slave mode. -/
theorem test_sendTo_dropped :
    fieldOf (fun t => (t.accepted, t.role, t.out)) (cmd State.reset 2 { address := 0x50, bytes := [1], length := 1 })
      = some (some false, .idle, []) ∧
    fieldOf (fun t => (t.accepted, t.peerAddress, t.out))
      (cmd (sending 0x50 [1] 0) 2 { address := 0x51, bytes := [2], length := 1 }) = some (some false, 0x50, []) ∧
    fieldOf (fun t => (t.accepted, t.role, t.out)) (cmd (s0 8) 2 { address := 0x50, bytes := [1], length := 1 })
      = some (some false, .idle, []) := by decide

/-- V-CMD-19: an accepted `READ_FROM` clears an earlier error and keeps the buffer's content. -/
theorem test_readFrom_accepted :
    fieldOf (fun t => (t.accepted, t.role, t.lastError, t.length, t.out))
      (cmd { m0 with lastError := .missingAck } 3 { address := 0x10, bytes := [0xEE, 0xEE], length := 2 })
      = some (some true, .masterReceive, .ok, 2, [.start]) ∧
    fieldOf (fun t => (t.peerAddress, t.mb)) (cmd m0 3 { address := 0x10, bytes := [0xEE, 0xEF], length := 1 })
      = some (0x10, [(0, 0xEE), (1, 0xEF)]) := by decide

/-- V-CMD-9: `READ_FROM` dropped while busy. -/
theorem test_readFrom_dropped :
    fieldOf (fun t => (t.accepted, t.role, t.out))
      (cmd (sending 0x50 [1] 0) 3 { address := 0x51, bytes := [0], length := 1 })
      = some (some false, .masterTransmit, []) := by decide

/-- V-SR-3: a handler replaced while a transaction is in flight leaves the active one. -/
theorem test_setRxHandler :
    fieldOf (fun t => (t.rxHandler, t.rxHandlerActive, t.out)) (cmd (receiving 4 []) 4 { callback := 2 })
      = some (some 2, some 1, []) := by decide

/-- V-CMD-2, V-CMD-5: refused in Master mode. -/
theorem test_setRxHandler_master :
    fieldOf State.rxHandler (cmd State.reset 4 { callback := 1 }) = some none ∧
    fieldOf State.rxHandler (cmd m0 4 { callback := 1 }) = some none := by decide

/-- V-CMD-16, V-ST-10. -/
theorem test_setTxProvider :
    fieldOf (fun t => (t.txProvider, t.maxTxLength, t.out)) (cmd (s0 8) 5 { callback := 1, maxLength := 0 })
      = some (some 1, 0, []) ∧
    fieldOf (fun t => (t.txProvider, t.maxTxLength, t.length))
      (cmd (transmitting [1, 2, 3] 1) 5 { callback := 2, maxLength := 1 }) = some (some 2, 1, 3) := by decide

/-- V-CMD-6: refused in Master mode. -/
theorem test_setTxProvider_master :
    fieldOf (fun t => (t.txProvider, t.maxTxLength)) (cmd m0 5 { callback := 1, maxLength := 4 })
      = some (none, 0) := by decide

/-! ## Master-send (spec/41_master_send.md) -/

/-- V-MT-2, V-MT-5: the address byte; out of sequence the cursor is kept. -/
theorem test_mtStart :
    outOf (ev (sending 0x7F [9] 0) 0x08) = some [.wrData 0xFE, .nextAck] ∧
    fieldOf (fun t => (t.cursor, t.role, t.dr)) (ev (sending 0x50 [1, 2] 1) 0x08)
      = some (1, .masterTransmit, 0xA0) := by decide

/-- V-MT-4. -/
theorem test_mtRepStart : outOf (ev (sending 0x50 [1] 0) 0x10) = some [.wrData 0xA0, .nextAck] := by decide

/-- V-MT-3. -/
theorem test_mtSlaAck :
    outOf (ev (sending 0x00 [0x10, 0x20, 0x30] 0) 0x18) = some [.wrData 0x10, .nextAck] ∧
    fieldOf State.cursor (ev (sending 0x00 [0x10, 0x20, 0x30] 0) 0x18) = some 1 := by decide

/-- V-MT-1: a transaction of length 0. -/
theorem test_mtSlaAck_empty :
    outOf (ev (sending 0x50 [] 0) 0x18) = some [.stop] ∧
    fieldOf (fun t => (t.role, t.lastError)) (ev (sending 0x50 [] 0) 0x18) = some (.idle, .ok) := by decide

/-- S1, the third byte. -/
theorem test_mtDataAck :
    outOf (ev (sending 0x50 [1, 2, 3] 2) 0x28) = some [.wrData 3, .nextAck] ∧
    fieldOf (fun t => (t.cursor, t.role)) (ev (sending 0x50 [1, 2, 3] 2) 0x28)
      = some (3, .masterTransmit) := by decide

/-- S1, the end. -/
theorem test_mtDataAck_end :
    outOf (ev (sending 0x50 [1, 2, 3] 3) 0x28) = some [.stop] ∧
    fieldOf (fun t => (t.cursor, t.role)) (ev (sending 0x50 [1, 2, 3] 3) 0x28) = some (3, .idle) := by decide

/-- V-MT-2. -/
theorem test_mtSlaNack :
    fieldOf (fun t => (t.lastError, t.role, t.cursor, t.out)) (ev (sending 0x7F [9] 0) 0x20)
      = some (.missingAck, .idle, 0, [.stop]) := by decide

/-- V-MT-3, V-MT-6: the cursor is not stepped back. -/
theorem test_mtDataNack :
    fieldOf (fun t => (t.lastError, t.role, t.cursor, t.out)) (ev (sending 0x00 [0x10, 0x20, 0x30] 2) 0x30)
      = some (.missingAck, .idle, 2, [.stop]) := by decide

/-! ## Master-receive (spec/42_master_receive.md) -/

/-- V-MR-9, V-MR-10. -/
theorem test_mrStart :
    outOf (ev (reading 0x00 [0] 0) 0x08) = some [.wrData 0x01, .nextAck] ∧
    outOf (ev (reading 0x7F [0] 0) 0x08) = some [.wrData 0xFF, .nextAck] := by decide

/-- V-MR-11. -/
theorem test_mrRepStart : outOf (ev (reading 0x50 [0, 0] 0) 0x10) = some [.wrData 0xA1, .nextAck] := by decide

/-- S2, V-MR-1: more than one byte, and exactly one. -/
theorem test_mrSlaAck :
    outOf (ev (reading 0x50 [0, 0] 0) 0x40) = some [.nextAck] ∧
    outOf (ev (reading 0x50 [0] 0) 0x40) = some [.nextNack] := by decide

/-- V-MR-2: no byte requested. -/
theorem test_mrSlaAck_empty :
    fieldOf (fun t => (t.role, t.out)) (ev (reading 0x50 [] 0) 0x40) = some (.idle, [.stop]) := by decide

/-- V-MR-3: the two stores and their replies. -/
theorem test_mrDataAck :
    fieldOf (fun t => (t.out, t.cursor, t.mb)) (ev (reading 0x50 [9, 9, 9] 0) 0x50 0x01)
      = some ([.rdData, .nextAck], 1, [(0, 1), (1, 9), (2, 9)]) ∧
    fieldOf (fun t => (t.out, t.cursor, t.mb)) (ev (reading 0x50 [1, 9, 9] 1) 0x50 0x02)
      = some ([.rdData, .nextNack], 2, [(0, 1), (1, 2), (2, 9)]) := by decide

/-- V-MR-7, V-MR-8: nothing left after the store, and nothing to store. -/
theorem test_mrDataAck_end :
    fieldOf (fun t => (t.out, t.role, t.mb)) (ev (reading 0x50 [9] 0) 0x50 0x66)
      = some ([.rdData, .stop], .idle, [(0, 0x66)]) ∧
    fieldOf (fun t => (t.out, t.role, t.mb)) (ev (reading 0x50 [] 0) 0x50 0x66)
      = some ([.rdData, .stop], .idle, []) := by decide

/-- S2, and V-MR-6: the final-byte class arrives early. -/
theorem test_mrDataNack :
    fieldOf (fun t => (t.out, t.role, t.mb)) (ev (reading 0x50 [0xAA, 9] 1) 0x58 0xBB)
      = some ([.rdData, .stop], .idle, [(0, 0xAA), (1, 0xBB)]) ∧
    fieldOf (fun t => (t.lastError, t.cursor, t.mb)) (ev (reading 0x50 [9, 8, 7] 0) 0x58 0x55)
      = some (.ok, 1, [(0, 0x55), (1, 8), (2, 7)]) := by decide

/-- V-MR-4. -/
theorem test_mrSlaNack :
    fieldOf (fun t => (t.lastError, t.role, t.out)) (ev (reading 0x50 [0, 0] 0) 0x48)
      = some (.missingAck, .idle, [.stop]) := by decide

/-- V-MR-5: with `SYMMETRIC_NACK = false`. -/
theorem test_mrSlaNack_asymmetric :
    fieldOf (fun t => (t.lastError, t.role, t.out))
      (ev { reading 0x50 [0, 0] 0 with config := { Config.standard with symmetricNack := false } } 0x48)
      = some (.ok, .idle, [.stop]) := by decide

/-! ## Slave-receive (spec/43_slave_receive.md) -/

/-- The example of R110. -/
theorem test_idleSrSlaAck :
    fieldOf (fun t => (t.out, t.role, t.cursor, t.length, t.rxHandlerActive))
      (ev { s0 8 with rxHandler := some 1, cursor := 3 } 0x60)
      = some ([.nextAck], .slaveReceive, 0, 8, some 1) := by decide

/-- V-SR-9: the trigger reads neither `mode` nor `enabled`. -/
theorem test_idleSrSlaAck_reset :
    fieldOf (fun t => (t.out, t.role)) (ev State.reset 0x60) = some ([.nextAck], .slaveReceive) := by decide

/-- V-SR-2. -/
theorem test_idleSrGcallAck :
    fieldOf (fun t => (t.out, t.role, t.length)) (ev (s0 4) 0x70) = some ([.nextAck], .slaveReceive, 4) := by
  decide

/-- The example of R113. -/
theorem test_srDataAck :
    fieldOf (fun t => (t.out, t.cursor, t.rxb)) (ev (receiving 8 []) 0x80 0x11)
      = some ([.rdData, .nextAck], 1, [(0, 0x11)]) := by decide

/-- X5, the byte after the last that fits; V-SR-1. -/
theorem test_srDataAck_full :
    fieldOf (fun t => (t.out, t.cursor, t.rxb)) (ev (receiving 2 [0xA1, 0xA2]) 0x80 0xA3)
      = some ([.rdData, .nextNack], 2, [(0, 0xA1), (1, 0xA2)]) := by decide

/-- V-SR-4. -/
theorem test_srDataNack :
    fieldOf (fun t => (t.out, t.cursor, t.rxb)) (ev (receiving 4 [1]) 0x88 0x77)
      = some ([.rdData, .nextAck], 2, [(0, 1), (1, 0x77)]) := by decide

/-- The example of R115. -/
theorem test_srGcallDataAck :
    fieldOf (fun t => (t.out, t.cursor, t.rxb.read 2)) (ev (receiving 8 [0x11, 0x22]) 0x90 0x33)
      = some ([.rdData, .nextAck], 3, some 0x33) := by decide

/-- V-SR-5. -/
theorem test_srGcallDataNack :
    fieldOf (fun t => (t.out, t.cursor, t.rxb)) (ev (receiving 4 [1, 2, 3, 4]) 0x98 0x44)
      = some ([.rdData, .nextNack], 4, [(0, 1), (1, 2), (2, 3), (3, 4)]) := by decide

/-- The example of R117. -/
theorem test_srStop :
    fieldOf (fun t => (t.out, t.role, t.cursor)) (ev (receiving 8 [0x11, 0x22, 0x33, 0x44]) 0xA0)
      = some ([.callRx 1 [0x11, 0x22, 0x33, 0x44] 4, .nextAck], .idle, 4) := by decide

/-- V-SR-1, V-SR-2: count 0, and no handler. -/
theorem test_srStop_corners :
    outOf (ev (receiving 0 []) 0xA0) = some [.callRx 1 [] 0, .nextAck] ∧
    outOf (ev { receiving 4 [0x11] with rxHandlerActive := none } 0xA0) = some [.nextAck] := by decide

/-! ## Slave-transmit (spec/44_slave_transmit.md) -/

/-- V-ST-2, V-ST-3: bounded by the maximum, and a single byte. -/
theorem test_idleStSlaAck :
    fieldOf (fun t => (t.out, t.role, t.cursor, t.length))
      (ev { s0 8 with txProvider := some 1, maxTxLength := 2 } 0xA8 0 [0x10, 0x20, 0x30])
      = some ([.callTx 1, .wrData 0x10, .nextAck], .slaveTransmit, 1, 2) ∧
    fieldOf (fun t => (t.out, t.cursor, t.length))
      (ev { s0 8 with txProvider := some 1, maxTxLength := 4 } 0xA8 0 [0x77])
      = some ([.callTx 1, .wrData 0x77, .nextNack], 1, 1) := by decide

/-- V-ST-4, V-ST-5, V-ST-8: no provider, an empty answer, a maximum of 0. -/
theorem test_idleStSlaAck_empty :
    fieldOf (fun t => (t.out, t.role, t.length)) (ev (s0 8) 0xA8 0 [1]) = some ([.nextNack], .slaveTransmit, 0) ∧
    outOf (ev { s0 8 with txProvider := some 1, maxTxLength := 4 } 0xA8 0 []) = some [.callTx 1, .nextNack] ∧
    fieldOf (fun t => (t.out, t.txb)) (ev { s0 8 with txProvider := some 1 } 0xA8 0 [1, 2])
      = some ([.callTx 1, .nextNack], [(0, 1), (1, 2)]) := by decide

/-- V-ST-10, V-ST-1: a byte in the middle, and the final one. -/
theorem test_stDataAck :
    fieldOf (fun t => (t.out, t.cursor)) (ev (transmitting [1, 2, 3] 1) 0xB8) = some ([.wrData 2, .nextAck], 2) ∧
    fieldOf (fun t => (t.out, t.cursor)) (ev (transmitting [0x10, 0x20] 1) 0xB8)
      = some ([.wrData 0x20, .nextNack], 2) := by decide

/-- V-ST-7: nothing left. -/
theorem test_stDataAck_end :
    fieldOf (fun t => (t.out, t.role)) (ev (transmitting [1] 1) 0xB8) = some ([.nextAck], .idle) := by decide

/-- V-ST-6: early termination records no error. -/
theorem test_stDataNack :
    fieldOf (fun t => (t.out, t.role, t.cursor, t.lastError)) (ev (transmitting [1, 2, 3] 1) 0xC0)
      = some ([.nextAck], .idle, 1, .ok) := by decide

/-- V-ST-2. -/
theorem test_stLastData :
    fieldOf (fun t => (t.out, t.role, t.cursor)) (ev (transmitting [0x10, 0x20] 2) 0xC8)
      = some ([.nextAck], .idle, 2) := by decide

/-! ## Common dispatches (spec/45_common_events.md) -/

/-- V-CM-4, V-CM-1. -/
theorem test_anyNoInfo :
    fieldOf (fun t => (t.out, t.role, t.cursor, t.lastError)) (ev (sending 0x50 [1, 2] 1) 0xF8)
      = some ([], .idle, 1, .ok) ∧
    fieldOf (fun t => (t.out, t.role)) (ev m0 0xF8) = some ([], .idle) := by decide

/-- V-CM-8, V-CM-2. -/
theorem test_anyBusError :
    fieldOf (fun t => (t.out, t.role, t.lastError, t.mb)) (ev (reading 0x50 [5, 6, 7] 1) 0x00)
      = some ([.stop], .idle, .busError, [(0, 5), (1, 6), (2, 7)]) ∧
    fieldOf (fun t => (t.out, t.lastError)) (ev m0 0x00) = some ([.stop], .busError) := by decide

/-- V-CM-3, V-CM-7. -/
theorem test_anyArbLost :
    fieldOf (fun t => (t.out, t.role, t.lastError)) (ev (sending 0x50 [1, 2] 1) 0x38)
      = some ([.release], .idle, .lostArbitration) ∧
    outOf (ev (transmitting [1] 1) 0x38) = some [.release] := by decide

/-- V-MT-8, V-CM-9, V-CM-11, V-CM-12: undefined dispatches fault, with role and code. -/
theorem test_violation :
    faultOf (ev (sending 0x50 [1] 0) 0x40) = some (.protocolViolation .masterTransmit 0x40) ∧
    faultOf (ev m0 0x08) = some (.protocolViolation .idle 0x08) ∧
    faultOf (ev (sending 0x50 [1] 0) 0x68) = some (.protocolViolation .masterTransmit 0x68) ∧
    faultOf (ev (sending 0x50 [1] 0) 0x01) = some (.protocolViolation .masterTransmit 0x01) := by decide

/-- V-SR-7, V-ST-9, V-MR-12: a second trigger, and a class of another role. -/
theorem test_violation_roles :
    faultOf (ev (receiving 4 []) 0x60) = some (.protocolViolation .slaveReceive 0x60) ∧
    faultOf (ev (transmitting [1] 1) 0xA8) = some (.protocolViolation .slaveTransmit 0xA8) ∧
    faultOf (ev (reading 0x50 [0, 0] 0) 0x18) = some (.protocolViolation .masterReceive 0x18) := by decide

/-! ## Operations of the encoder (spec/46_bus_actions.md) -/

/-- One operation given by itself joins the list that is there (R140 to R154). -/
theorem test_operations_join :
    outOf (exec .opStart { m0 with out := [.rdData] }) = some [.rdData, .start] ∧
    outOf (exec .opStop m0) = some [.stop] ∧ outOf (exec .opNextAck m0) = some [.nextAck] ∧
    outOf (exec .opNextNack m0) = some [.nextNack] ∧ outOf (exec .opRelease m0) = some [.release] ∧
    outOf (exec .opRdData m0) = some [.rdData] ∧ outOf (exec .opEnable m0) = some [.enable] ∧
    outOf (exec .opDisableBc m0) = some [.disableBc] ∧ outOf (exec .opNone m0) = some [] := by decide

/-- V-OP-6, V-OP-10, V-OP-11, V-OP-12, V-OP-13: the operations with an operand. -/
theorem test_operations_operands :
    fieldOf (fun t => (t.out, t.dr)) (exec (.opWrData 0xA0) m0) = some ([.wrData 0xA0], 0xA0) ∧
    outOf (exec (.opSetOwnAddr 0x22) m0) = some [.setOwnAddr 0x22] ∧
    outOf (exec (.opSetClockDiv 72) m0) = some [.setClockDiv 72] ∧
    outOf (exec (.opCallRx 1 [0x11, 0x22] 2) m0) = some [.callRx 1 [0x11, 0x22] 2] ∧
    outOf (exec (.opCallTx 1) m0) = some [.callTx 1] := by decide

/-! ## Witnesses: the hypotheses of each statement, met together, one theorem for each clause -/

/-- A send of two bytes with one sent, and one input. -/
def busy (p : Packet) : State := { sending 0x50 [1, 2] 1 with inbox := [p] }

/-- M0 with one input. -/
def idle (p : Packet) : State := { m0 with inbox := [p] }

theorem sending_inv : (sending 0x50 [1, 2] 1).Inv where
  caps := by decide
  cursor_le := by decide
  length_le := by decide
  capacity_le := by decide
  maxTx_le := by decide
  clock_le := by decide
  mb_wf := by decide
  rxb_wf := by decide
  txb_wf := by decide
  mb_covers := fun _ => Memory.covers_ofBytes (by decide)
  rx_length := by decide
  rxb_covers := fun h => absurd h (by decide)
  txb_covers := fun h => absurd h (by decide)

/-- The input is no part of the invariant. -/
theorem busy_inv (p : Packet) : (busy p).Inv :=
  ⟨sending_inv.caps, sending_inv.cursor_le, sending_inv.length_le, sending_inv.capacity_le,
    sending_inv.maxTx_le, sending_inv.clock_le, sending_inv.mb_wf, sending_inv.rxb_wf, sending_inv.txb_wf,
    sending_inv.mb_covers, sending_inv.rx_length, sending_inv.rxb_covers, sending_inv.txb_covers⟩

/-- Counts at the bound `CNT_MAX`. -/
theorem witness_DecodeInvertsEncode :
    wellFormed Config.standard (.setTxProvider 1 255) = true ∧
    wellFormed Config.standard (.sendTo 0x7F [1, 2] 2) = true ∧
    wellFormed Config.standard (.opCallRx 1 [] 0) = true := by decide

/-- Two states that agree on nothing else. -/
theorem witness_HandlerDependsOnRoleAndStatusOnly :
    (sending 0x50 [1] 0).role = (sending 0x22 [2, 3] 1).role ∧
    (sending 0x50 [1] 0).config = (sending 0x22 [2, 3] 1).config := by decide

theorem witness_StepRunsTheDecodedInstruction_interrupt :
    (busy (event 0x28)).inbox = [.interrupt 0x28 0 []] ∧
    decode (busy (event 0x28)).config (.dispatch (dispatchWord (busy (event 0x28)).role.code 0x28))
      = .ok .mtDataAck := by decide

theorem witness_StepRunsTheDecodedInstruction_command :
    (busy (.command 5 { maxLength := 255 })).inbox = [.command 5 { maxLength := 255 }] ∧
    decode (busy (.command 5 { maxLength := 255 })).config (.command 5 { maxLength := 255 })
      = .ok (.setTxProvider 0 255) := by decide

theorem witness_StepRunsTheDecodedInstruction_operation :
    (busy (.operation 13 {} 0 [])).inbox = [.operation 13 {} 0 []] ∧
    decode (busy (.operation 13 {} 0 [])).config (.operation 13 {}) = .ok (.opCallTx 0) := by decide

theorem witness_OnlyDisableFreesAStuckTransaction_stuck :
    (sending 0x50 [1, 2] 1).inbox = [] ∧ (sending 0x50 [1, 2] 1).role ≠ .idle := by decide

theorem witness_OnlyDisableFreesAStuckTransaction_other :
    (busy (.command 4 {})).inbox = [.command 4 {}] ∧
    decoded (busy (.command 4 {})) (.command 4 {}) [] = .ok (.setRxHandler 0) ∧
    (busy (.command 4 {})).role ≠ .idle ∧ Instr.setRxHandler 0 ≠ .disable := by decide

theorem witness_OnlyDisableFreesAStuckTransaction_disable :
    (busy (.command 1 {})).inbox = [.command 1 {}] ∧
    decoded (busy (.command 1 {})) (.command 1 {}) [] = .ok .disable ∧
    (busy (.command 1 {})).role ≠ .idle := by decide

theorem witness_UndefinedDispatchesAndNoOthersViolate_none :
    (busy (event 0x40)).inbox = [.interrupt 0x40 0 []] ∧
    decodeDispatch (busy (event 0x40)).config.statusTable
      (dispatchWord (busy (event 0x40)).role.code 0x40) = none := by decide

theorem witness_UndefinedDispatchesAndNoOthersViolate_some :
    (busy (event 0x30)).inbox = [.interrupt 0x30 0 []] ∧
    decodeDispatch (busy (event 0x30)).config.statusTable
      (dispatchWord (busy (event 0x30)).role.code 0x30) = some .mtDataNack := by decide

theorem witness_UndefinedDispatchesAndNoOthersViolate_fault :
    step (busy (event 0x40)) = .fault (.protocolViolation .masterTransmit 0x40) := rfl

theorem witness_ReservedAndIllFormedInputsAreRefused_command :
    (idle (.command 6 {})).inbox = [.command 6 {}] ∧ 6 ≤ (6 : BitVec 3).toNat := by decide

theorem witness_ReservedAndIllFormedInputsAreRefused_operation :
    (idle (.operation 14 {} 0 [])).inbox = [.operation 14 {} 0 []] ∧ 14 ≤ (14 : BitVec 4).toNat := by decide

/-- A count one above `CNT_MAX`. -/
theorem witness_ReservedAndIllFormedInputsAreRefused_illFormed :
    (idle (.command 5 { maxLength := 256 })).inbox = [.command 5 { maxLength := 256 }] ∧
    decodeCommand 5 { maxLength := 256 } = some (.setTxProvider 0 256) ∧
    wellFormed (idle (.command 5 { maxLength := 256 })).config (.setTxProvider 0 256) = false := by decide

theorem witness_StepKeepsInvariant :
    (busy (event 0x28)).Inv ∧ ∃ t, step (busy (event 0x28)) = .next t := ⟨busy_inv _, _, rfl⟩

/-- The defaults are at the bound. -/
theorem witness_ResetMeetsInvariant : Config.standard.rxCapMax ≤ Config.standard.cntMax := by decide

/-- At the bound: the buffer is full. -/
theorem witness_CursorNeverPassesLength :
    (receiving 2 [1, 2]).cursor ≤ (receiving 2 [1, 2]).length ∧
    (receiving 2 [1, 2]).length = (receiving 2 [1, 2]).rxCapacity ∧
    ∃ t, step { receiving 2 [1, 2] with inbox := [eventDr 0x80 3] } = .next t :=
  ⟨by decide, by decide, _, rfl⟩

theorem witness_EveryDecodedInputCompletes_decoded :
    (busy (event 0x28)).Inv ∧ (busy (event 0x28)).inbox = [event 0x28] ∧
    decoded (busy (event 0x28)) (event 0x28) [] = .ok .mtDataAck := ⟨busy_inv _, rfl, rfl⟩

theorem witness_EveryDecodedInputCompletes_fault :
    (busy (event 0x40)).Inv ∧ ∃ f, step (busy (event 0x40)) = .fault f := ⟨busy_inv _, _, rfl⟩

theorem witness_EveryDecodedInputCompletes_refused :
    ∃ r, step (busy (.command 7 {})) = .refused r := ⟨_, rfl⟩

/-- Also for `CursorAndLengthWriters` (with `busy_inv`). -/
theorem witness_RoleFollowsTheGraph :
    (busy (event 0x28)).inbox = [event 0x28] ∧
    decoded (busy (event 0x28)) (event 0x28) [] = .ok .mtDataAck ∧ ∃ t, step (busy (event 0x28)) = .next t :=
  ⟨rfl, rfl, _, rfl⟩

theorem witness_StepRecordsItsOutputs_input :
    (busy (event 0x28)).inbox ≠ [] ∧ ∃ t, step (busy (event 0x28)) = .next t := ⟨by decide, _, rfl⟩

theorem witness_StepRecordsItsOutputs_noInput : m0.inbox = [] ∧ ∃ t, step m0 = .next t := ⟨rfl, _, rfl⟩

theorem witness_CursorAndLengthWriters :
    (busy (event 0x28)).Inv ∧ (busy (event 0x28)).inbox = [event 0x28] ∧
    decoded (busy (event 0x28)) (event 0x28) [] = .ok .mtDataAck ∧ ∃ t, step (busy (event 0x28)) = .next t :=
  ⟨busy_inv _, rfl, rfl, _, rfl⟩

theorem witness_PeerAddressWritersAndReaders_unchanged :
    startsTransaction .mtStart = false ∧ ∃ t, exec .mtStart (sending 0x50 [1] 0) = .next t := ⟨rfl, _, rfl⟩

theorem witness_PeerAddressWritersAndReaders_noReader :
    startsTransaction .mrDataAck = false ∧ isStart .mrDataAck = false := by decide

theorem witness_PeerAddressWritersAndReaders_reader :
    isStart .mtStart = true ∧ isStart .mtRepStart = true ∧ isStart .mrStart = true ∧
    isStart .mrRepStart = true := by decide

theorem witness_PeerAddressWritersAndReaders_writer :
    startsTransaction (.sendTo 0x7F [] 0) = true ∧ startsTransaction (.readFrom 0 [] 0) = true ∧
    m0.acceptsTransaction = true ∧ (s0 8).acceptsTransaction = false := by decide

/-- Also for every other statement whose only hypothesis is that `exec` answers a next state. -/
theorem witness_LastErrorWritersAndNoReader :
    ∃ t, exec .mtSlaNack (sending 0x50 [1] 0) = .next t := ⟨_, rfl⟩

theorem witness_ConfigurationWritersAndReaders_writers :
    isInit .mtSlaAck = false ∧ Instr.mtSlaAck ≠ .disable ∧
    ∃ t, exec .mtSlaAck (sending 0x50 [1] 0) = .next t := ⟨rfl, by decide, _, rfl⟩

theorem witness_ConfigurationWritersAndReaders_readers : isDispatch .idleSrSlaAck = true := by decide

theorem witness_CommandsAndStepsWriteTheirOwnFields_command :
    isCommand (.sendTo 0x50 [1] 1) = true ∧ ∃ t, exec (.sendTo 0x50 [1] 1) m0 = .next t := ⟨rfl, _, rfl⟩

theorem witness_CommandsAndStepsWriteTheirOwnFields_step :
    isDispatch .stDataAck = true ∧ storesMb .stDataAck = false ∧
    ∃ t, exec .stDataAck (transmitting [1, 2] 1) = .next t := ⟨by decide, by decide, _, rfl⟩

/-- Room for one byte, and none. -/
theorem witness_StoresChangeOnlyAtTheCursor_mb :
    storesMb .mrDataAck = true ∧ (∃ t, exec .mrDataAck (reading 0x50 [9] 0) = .next t) ∧
    (∃ t, exec .mrDataAck (reading 0x50 [9] 1) = .next t) := ⟨by decide, ⟨_, rfl⟩, ⟨_, rfl⟩⟩

theorem witness_StoresChangeOnlyAtTheCursor_rxb :
    storesRxb .srDataNack = true ∧ (∃ t, exec .srDataNack (receiving 2 [1]) = .next t) ∧
    (∃ t, exec .srDataNack (receiving 2 [1, 2]) = .next t) := ⟨by decide, ⟨_, rfl⟩, ⟨_, rfl⟩⟩

theorem witness_StoresChangeOnlyAtTheCursor_others :
    storesMb .disable = false ∧ startsTransaction .disable = false ∧ storesRxb .disable = false ∧
    Instr.disable ≠ .idleStSlaAck ∧ ∃ t, exec .disable (receiving 2 [1]) = .next t :=
  ⟨by decide, rfl, by decide, by decide, _, rfl⟩

theorem witness_RegistrationWriters_writers :
    isSetRx .srStop = false ∧ isSetTx .srStop = false ∧ ∃ t, exec .srStop (receiving 2 [1]) = .next t :=
  ⟨rfl, rfl, _, rfl⟩

theorem witness_RegistrationWriters_readers : isSetTx .stDataAck = false ∧ Instr.stDataAck ≠ .idleStSlaAck := by
  decide

theorem witness_ReplacedRegistrationsWaitForTheNextTrigger_inFlight :
    isDispatch .srStop = true ∧ isTrigger .srStop = false := by decide

theorem witness_ReplacedRegistrationsWaitForTheNextTrigger_replace : (receiving 4 []).mode = .slave := rfl

theorem witness_ReplacedRegistrationsWaitForTheNextTrigger_trigger :
    ∃ t, exec .idleSrGcallAck (s0 4) = .next t := ⟨_, rfl⟩

theorem witness_ReplacedRegistrationsWaitForTheNextTrigger_provider :
    { s0 4 with txProvider := some 2 }.txProvider = some 2 ∧
    ∃ t, exec .idleStSlaAck { s0 4 with txProvider := some 2 } = .next t := ⟨rfl, _, rfl⟩

theorem witness_OutputListsAreThoseOfTheTable :
    ∃ t, exec .idleStSlaAck { s0 4 with txProvider := some 2, maxTxLength := 1, txAnswer := [7, 8] } = .next t :=
  ⟨_, rfl⟩

theorem witness_InterruptListsEndInOneControlOperation_one :
    (busy (event 0x28)).inbox = [.interrupt 0x28 0 []] ∧
    decoded (busy (event 0x28)) (.interrupt 0x28 0 []) [] = .ok .mtDataAck ∧
    Instr.mtDataAck ≠ .anyNoInfo ∧ ∃ t, step (busy (event 0x28)) = .next t := ⟨rfl, rfl, by decide, _, rfl⟩

theorem witness_InterruptListsEndInOneControlOperation_none :
    (busy (event 0xF8)).inbox = [.interrupt 0xF8 0 []] ∧
    decoded (busy (event 0xF8)) (.interrupt 0xF8 0 []) [] = .ok .anyNoInfo ∧
    ∃ t, step (busy (event 0xF8)) = .next t := ⟨rfl, rfl, _, rfl⟩

theorem witness_StartComesOnlyFromAcceptedCommands :
    (idle (.command 2 {})).inbox = [.command 2 {}] ∧ (Packet.command 2 {}).isExternal = true ∧
    decoded (idle (.command 2 {})) (.command 2 {}) [] = .ok (.sendTo 0 [] 0) ∧
    ∃ t, step (idle (.command 2 {})) = .next t ∧ .start ∈ t.out := ⟨rfl, rfl, rfl, _, rfl, by decide⟩

theorem witness_StopEndsAMasterTransaction :
    (busy (event 0x30)).inbox = [event 0x30] ∧ (event 0x30).isExternal = true ∧
    decoded (busy (event 0x30)) (event 0x30) [] = .ok .mtDataNack ∧
    ∃ t, step (busy (event 0x30)) = .next t ∧ .stop ∈ t.out := ⟨rfl, rfl, rfl, _, rfl, by decide⟩

/-- From Idle. -/
theorem witness_StopEndsAMasterTransaction_idle :
    (idle (event 0x00)).inbox = [event 0x00] ∧ (event 0x00).isExternal = true ∧
    decoded (idle (event 0x00)) (event 0x00) [] = .ok .anyBusError ∧ (idle (event 0x00)).role = .idle ∧
    ∃ t, step (idle (event 0x00)) = .next t ∧ .stop ∈ t.out := ⟨rfl, rfl, rfl, rfl, _, rfl, by decide⟩

/-- A byte of MB. -/
theorem witness_WrittenBytesAreAddressOrBufferBytes_buffer :
    (busy (event 0x28)).inbox = [event 0x28] ∧ (event 0x28).isExternal = true ∧
    decoded (busy (event 0x28)) (event 0x28) [] = .ok .mtDataAck ∧
    ∃ t, step (busy (event 0x28)) = .next t ∧ .wrData 2 ∈ t.out := ⟨rfl, rfl, rfl, _, rfl, by decide⟩

/-- An address byte, and the hypothesis of the second clause. -/
theorem witness_WrittenBytesAreAddressOrBufferBytes_address :
    (busy (event 0x08)).inbox = [.interrupt 0x08 0 []] ∧ (event 0x08).isExternal = true ∧
    decoded (busy (event 0x08)) (event 0x08) [] = .ok .mtStart ∧
    ∃ t, step (busy (event 0x08)) = .next t ∧ .wrData 0xA0 ∈ t.out := ⟨rfl, rfl, rfl, _, rfl, by decide⟩

theorem witness_EnableAndDisableOperations_enable :
    (idle (.command 0 {})).inbox = [.command 0 {}] ∧ (Packet.command 0 {}).isExternal = true ∧
    decoded (idle (.command 0 {})) (.command 0 {}) [] = .ok (.init .master 0 0 0 false) ∧
    ∃ t, step (idle (.command 0 {})) = .next t ∧ .enable ∈ t.out := ⟨rfl, rfl, rfl, _, rfl, by decide⟩

theorem witness_EnableAndDisableOperations_disable :
    (busy (.command 1 {})).inbox = [.command 1 {}] ∧ (Packet.command 1 {}).isExternal = true ∧
    decoded (busy (.command 1 {})) (.command 1 {}) [] = .ok .disable ∧
    ∃ t, step (busy (.command 1 {})) = .next t ∧ .disableBc ∈ t.out := ⟨rfl, rfl, rfl, _, rfl, by decide⟩

theorem witness_RecordedErrorsAreRecoverable :
    Instr.mtSlaNack ∈ [.mtSlaNack, .mtDataNack, .mrSlaNack, .anyArbLost, Instr.anyBusError] ∧
    ∃ t, exec .mtSlaNack (sending 0x50 [1] 0) = .next t ∧ t.enabled = true ∧ t.mode = .master :=
  ⟨by decide, _, rfl, rfl, rfl⟩

theorem witness_InitInFlightIsRejected : (sending 0x50 [1] 0).role ≠ .idle := by decide

/-- Busy only, disabled only, in Slave mode only. -/
theorem witness_BusyCallsAreDropped :
    ((sending 0x50 [1] 0).role ≠ .idle ∧ (sending 0x50 [1] 0).enabled = true) ∧
    (State.reset.enabled = false ∧ State.reset.mode = .master ∧ State.reset.role = .idle) ∧
    ((s0 8).mode = .slave ∧ (s0 8).enabled = true ∧ (s0 8).role = .idle) := by decide

/-- The capacity at its bound. -/
theorem witness_InitConfigures_slave : m0.role = .idle ∧ 255 ≤ m0.config.rxCapMax := by decide

/-- The capacity and the clock at their bounds. -/
theorem witness_InitConfigures_master :
    m0.role = .idle ∧ 255 ≤ m0.config.rxCapMax ∧ 400000 ≤ m0.config.clockMaxHz := by decide

/-- One above each bound. -/
theorem witness_InitConfigures_refused : m0.config.rxCapMax < 256 ∧ m0.config.clockMaxHz < 400001 := by decide

/-- Also for `ReadFromStartsATransaction`. -/
theorem witness_SendToStartsATransaction : m0.enabled = true ∧ m0.mode = .master ∧ m0.role = .idle := by decide

theorem witness_ReadFromStartsATransaction :
    { m0 with lastError := .busError }.enabled = true ∧ { m0 with lastError := .busError }.mode = .master ∧
    { m0 with lastError := .busError }.role = .idle := by decide

theorem witness_RegistrationsReplaceInSlaveMode : (receiving 4 []).mode = .slave ∧ m0.mode = .master := by decide

theorem witness_AddressByteLayout :
    (∃ t, exec .mtRepStart (sending 0x7F [1] 0) = .next t) ∧ (∃ t, exec .mrStart (reading 0 [1] 0) = .next t) :=
  ⟨⟨_, rfl⟩, ⟨_, rfl⟩⟩

/-- One byte left, and none. -/
theorem witness_MasterSendGoesOnWhileBytesRemain :
    (0 < 1 ∧ (sending 0x50 [7] 0).mb.read (sending 0x50 [7] 0).cursor = some 7) ∧
    (sending 0x50 [7] 1).length ≤ (sending 0x50 [7] 1).cursor := by decide

/-- Two bytes left, one, and none. -/
theorem witness_MasterReceiveLooksAhead :
    (reading 0x50 [1, 2] 0).cursor + 1 < (reading 0x50 [1, 2] 0).length ∧
    (reading 0x50 [1] 0).cursor + 1 = (reading 0x50 [1] 0).length ∧
    (reading 0x50 [] 0).length ≤ (reading 0x50 [] 0).cursor := by decide

/-- Three bytes left, two, one, and none. -/
theorem witness_MasterReceiveStoresAndLooksAhead :
    (reading 0x50 [1, 2, 3] 0).cursor + 2 < (reading 0x50 [1, 2, 3] 0).length ∧
    (reading 0x50 [1, 2] 0).cursor + 2 = (reading 0x50 [1, 2] 0).length ∧
    (reading 0x50 [1] 0).cursor + 1 = (reading 0x50 [1] 0).length ∧
    (reading 0x50 [] 0).length ≤ (reading 0x50 [] 0).cursor := by decide

theorem witness_MasterReceiveFinalByteEnds :
    (reading 0x50 [1] 0).cursor < (reading 0x50 [1] 0).length ∧
    (reading 0x50 [1] 1).length ≤ (reading 0x50 [1] 1).cursor := by decide

theorem witness_MasterReceiveNotAcknowledgedEnds :
    (reading 0x50 [1] 0).config.symmetricNack = true ∧
    { reading 0x50 [1] 0 with config := { Config.standard with symmetricNack := false } }.config.symmetricNack
      = false := by decide

/-- Room for one byte, and none. -/
theorem witness_SlaveReceiveStoresUpToCapacity :
    storesRxb .srDataAck = true ∧ storesRxb .srDataNack = true ∧ storesRxb .srGcallDataAck = true ∧
    storesRxb .srGcallDataNack = true ∧ (receiving 1 []).cursor < (receiving 1 []).rxCapacity ∧
    (receiving 1 [5]).rxCapacity ≤ (receiving 1 [5]).cursor := by decide

theorem witness_SlaveReceiveStopCallsTheHandler :
    (receiving 4 [5, 6]).rxHandlerActive = some 1 ∧
    (receiving 4 [5, 6]).rxb.bytes (receiving 4 [5, 6]).cursor = some [5, 6] ∧
    { receiving 4 [5, 6] with rxHandlerActive := none }.rxHandlerActive = none := by decide

/-- The least maximum that lets a byte through. -/
theorem witness_SlaveTransmitTriggerSendsTheFirstByte_byte :
    { s0 8 with txProvider := some 1, maxTxLength := 1, txAnswer := [7] }.txProvider = some 1 ∧
    { s0 8 with txProvider := some 1, maxTxLength := 1, txAnswer := [7] }.txAnswer = 7 :: [] ∧
    0 < { s0 8 with txProvider := some 1, maxTxLength := 1, txAnswer := [7] }.maxTxLength := by decide

theorem witness_SlaveTransmitTriggerSendsTheFirstByte_empty :
    { s0 8 with txProvider := some 1, txAnswer := [7] }.txProvider = some 1 ∧
    { s0 8 with txProvider := some 1, txAnswer := [7] }.maxTxLength = 0 ∧
    { s0 8 with txProvider := some 1, maxTxLength := 3 }.txAnswer = [] := by decide

theorem witness_SlaveTransmitTriggerSendsTheFirstByte_noProvider : (s0 8).txProvider = none := rfl

/-- Two bytes left, one, and none. -/
theorem witness_SlaveTransmitGoesOnWhileBytesRemain :
    ((transmitting [5, 6] 0).cursor + 1 < (transmitting [5, 6] 0).length ∧
      (transmitting [5, 6] 0).txb.read (transmitting [5, 6] 0).cursor = some 5) ∧
    ((transmitting [5, 6] 1).cursor + 1 = (transmitting [5, 6] 1).length ∧
      (transmitting [5, 6] 1).txb.read (transmitting [5, 6] 1).cursor = some 6) ∧
    (transmitting [5, 6] 2).length ≤ (transmitting [5, 6] 2).cursor := by decide

/-- A send of one byte. -/
theorem witness_SendTransactionSendsEveryByteInOrder :
    ∃ s : State, s.config.statusTable = standardStatusTable ∧ [(7 : Byte)].length ≤ s.config.cntMax ∧
      s.enabled = true ∧ s.mode = .master ∧ s.role = .idle ∧
      s.inbox = .command 2 { address := 0x50, bytes := [7], length := 1 } :: event 0x08 :: event 0x18 ::
        (List.replicate 1 (event 0x28) ++ []) :=
  ⟨{ m0 with inbox := .command 2 { address := 0x50, bytes := [7], length := 1 } :: event 0x08 :: event 0x18 ::
      (List.replicate 1 (event 0x28) ++ []) }, rfl, by decide, rfl, rfl, rfl, rfl⟩

/-- A read of one byte. -/
theorem witness_ReadTransactionStoresEveryByteInOrder :
    ∃ s : State, s.config.statusTable = standardStatusTable ∧ 1 ≤ s.config.cntMax ∧
      s.enabled = true ∧ s.mode = .master ∧ s.role = .idle ∧
      s.inbox = .command 3 { address := 0x50, bytes := [0], length := 0 + 1 } :: event 0x08 :: event 0x40 ::
        (List.map (eventDr 0x50) [] ++ eventDr 0x58 9 :: []) :=
  ⟨{ m0 with
      inbox := .command 3 { address := 0x50, bytes := [0], length := 0 + 1 } ::
        event 0x08 :: event 0x40 :: (List.map (eventDr 0x50) [] ++ eventDr 0x58 9 :: []) }, rfl, by decide, rfl, rfl, rfl, rfl⟩

/-- Three bytes into a capacity of two. -/
theorem witness_SlaveReceiveDeliversUpToCapacity :
    ∃ s : State, s.config.statusTable = standardStatusTable ∧ s.role = .idle ∧ s.rxHandler = some 1 ∧
      s.rxCapacity = 2 ∧
      s.inbox = event 0x60 :: (List.map (eventDr 0x80) [1, 2, 3] ++ event 0xA0 :: []) :=
  ⟨{ s0 2 with
      rxHandler := some 1
      inbox := event 0x60 :: (List.map (eventDr 0x80) [1, 2, 3] ++ event 0xA0 :: []) }, rfl, rfl, rfl, rfl, rfl⟩

/-- Three bytes with a maximum of two. -/
theorem witness_SlaveTransmitSendsUpToTheMaximum :
    ∃ s : State, s.config.statusTable = standardStatusTable ∧ s.role = .idle ∧ s.txProvider = some 1 ∧
      1 + 1 = min [(1 : Byte), 2, 3].length s.maxTxLength ∧
      s.inbox = .interrupt 0xA8 0 [1, 2, 3] :: (List.replicate 1 (event 0xB8) ++ event 0xC8 :: []) :=
  ⟨{ s0 2 with
      txProvider := some 1, maxTxLength := 2
      inbox := .interrupt 0xA8 0 [1, 2, 3] :: (List.replicate 1 (event 0xB8) ++ event 0xC8 :: []) },
    rfl, rfl, rfl, by decide, rfl⟩

/-! The hypotheses that only name the instructions a statement is about. -/

theorem witness_StartDispatchesSendTheAddress :
    (Instr.mtRepStart = .mtStart ∨ Instr.mtRepStart = .mtRepStart) ∧
    (Instr.mrStart = .mrStart ∨ Instr.mrStart = .mrRepStart) := by decide

theorem witness_MasterSendNotAcknowledgedEnds :
    Instr.mtDataNack = .mtSlaNack ∨ Instr.mtDataNack = .mtDataNack := by decide

theorem witness_SlaveReceiveTriggersStart :
    Instr.idleSrGcallAck = .idleSrSlaAck ∨ Instr.idleSrGcallAck = .idleSrGcallAck := by decide

theorem witness_SlaveTransmitEndsWithoutError :
    Instr.stLastData = .stDataNack ∨ Instr.stLastData = .stLastData := by decide

theorem witness_EncoderOperationsJoinTheOutputList :
    (Instr.opDisableBc, Op.disableBc) ∈ [(.opStart, .start), (.opStop, .stop), (.opNextAck, .nextAck),
      (.opNextNack, .nextNack), (.opRelease, .release), (.opRdData, .rdData), (.opEnable, .enable),
      (Instr.opDisableBc, Op.disableBc)] := by decide

end Sys2Proof.Tests
end

section
/-! SUPPORT. The decoder, read backwards: which role an instruction presented to the machine was
selected by (R64, R65), and properties of every next state that a result answers. -/

namespace Sys2Proof.Machine

variable {s t : State}

/-- R65: the one role in which an instruction is dispatched; `none` for the common dispatches, the
commands and the encoder operations. -/
def handlerRole : Instr → Option Role
  | .idleSrSlaAck | .idleSrGcallAck | .idleStSlaAck => some .idle
  | .mtStart | .mtRepStart | .mtSlaAck | .mtSlaNack | .mtDataAck | .mtDataNack => some .masterTransmit
  | .mrStart | .mrRepStart | .mrSlaAck | .mrSlaNack | .mrDataAck | .mrDataNack => some .masterReceive
  | .srDataAck | .srDataNack | .srGcallDataAck | .srGcallDataNack | .srStop => some .slaveReceive
  | .stDataAck | .stDataNack | .stLastData => some .slaveTransmit
  | _ => none

theorem handlerRole_of_dispatchAny {c : StatusClass} {i : Instr} (h : dispatchAny c = some i) :
    handlerRole i = none := by
  cases c <;> cases h <;> rfl

theorem handlerRole_of_dispatchRole {r : Role} {c : StatusClass} {i : Instr}
    (h : dispatchRole r c = some i) : handlerRole i = some r := by
  cases r <;> cases c <;> cases h <;> rfl

/-- One row of the decoders of commands and operations, which test the opcodes in turn. -/
theorem handlerRole_of_ite {c : Prop} [Decidable c] {i j : Instr} {o : Option Instr}
    (hj : handlerRole j = none) (h : (if c then some j else o) = some i)
    (ho : o = some i → handlerRole i = none) : handlerRole i = none := by
  split at h
  · cases h
    exact hj
  · exact ho h

theorem handlerRole_of_decodeCommand {cop : BitVec 3} {args : CommandArgs} {i : Instr}
    (h : decodeCommand cop args = some i) : handlerRole i = none := by
  unfold decodeCommand at h
  repeat refine handlerRole_of_ite rfl h fun h => ?_
  cases h

theorem handlerRole_of_decodeOperation {bop : BitVec 4} {args : OpArgs} {i : Instr}
    (h : decodeOperation bop args = some i) : handlerRole i = none := by
  unfold decodeOperation at h
  repeat refine handlerRole_of_ite rfl h fun h => ?_
  cases h

/-- R64: the upper bits of a dispatch word are the role. -/
@[simp] theorem dispatchRoleCode_dispatchWord (r : BitVec 3) (c : BitVec 8) :
    dispatchRoleCode (dispatchWord r c) = r := by
  unfold dispatchRoleCode dispatchWord
  exact BitVec.extractLsb'_append_eq_left

/-- A role's dispatch word selects a common handler or one of that role (R65). -/
theorem handlerRole_of_decodeDispatch {table : List (BitVec 8 × StatusClass)} {r : Role} {c : BitVec 8}
    {i : Instr} (h : decodeDispatch table (dispatchWord r.code c) = some i) :
    handlerRole i = none ∨ handlerRole i = some r := by
  unfold decodeDispatch at h
  split at h
  case h_1 hany =>
    cases h
    exact .inl (handlerRole_of_dispatchAny hany)
  case h_2 =>
    simp only [dispatchRoleCode_dispatchWord, ofCode_code] at h
    exact .inr (handlerRole_of_dispatchRole h)

theorem decode_dispatch_eq_ok {cfg : Config} {d : BitVec 11} {i : Instr} :
    decode cfg (.dispatch d) = .ok i ↔ decodeDispatch cfg.statusTable d = some i := by
  cases h : decodeDispatch cfg.statusTable d <;> simp [decode, h]

theorem decodeCommand_of_decode {cfg : Config} {cop : BitVec 3} {args : CommandArgs} {i : Instr}
    (h : decode cfg (.command cop args) = .ok i) : decodeCommand cop args = some i := by
  cases hc : decodeCommand cop args with
  | none => simp [decode, hc] at h
  | some j =>
    simp only [decode, hc] at h
    rw [(checkOperands_ok h).1]

theorem decodeOperation_of_decode {cfg : Config} {bop : BitVec 4} {args : OpArgs} {i : Instr}
    (h : decode cfg (.operation bop args) = .ok i) : decodeOperation bop args = some i := by
  cases hc : decodeOperation bop args with
  | none => simp [decode, hc] at h
  | some j =>
    simp only [decode, hc] at h
    rw [(checkOperands_ok h).1]

/-- R64, R65: an instruction that belongs to a role is decoded in that role only. -/
theorem role_of_decoded {p : Packet} {rest : List Packet} {i : Instr} {r : Role}
    (hd : decoded s p rest = .ok i) (hi : handlerRole i = some r) : s.role = r := by
  cases p with
  | interrupt c b tx =>
    obtain h | h := handlerRole_of_decodeDispatch (decode_dispatch_eq_ok.mp hd)
    · rw [h] at hi
      cases hi
    · exact Option.some.inj (h.symm.trans hi)
  | command cop args =>
    rw [handlerRole_of_decodeCommand (decodeCommand_of_decode hd)] at hi
    cases hi
  | operation bop args b tx =>
    rw [handlerRole_of_decodeOperation (decodeOperation_of_decode hd)] at hi
    cases hi

theorem handlerRole_of_storesRxb {i : Instr} (h : storesRxb i = true) :
    handlerRole i = some .slaveReceive := by
  simp only [storesRxb, List.mem_cons, List.not_mem_nil, or_false, decide_eq_true_eq] at h
  obtain rfl | rfl | rfl | rfl := h <;> rfl

/-- The next state that a result answers, if it answers one, satisfies `P`. -/
def NextSatisfies (P : State → Prop) : Result → Prop
  | .next t => P t
  | .fault _ => True
  | .refused _ => True

theorem nextSatisfies_iff {P : State → Prop} {r : Result} :
    NextSatisfies P r ↔ ∀ t, r = .next t → P t := by
  cases r <;> simp [NextSatisfies]

end Sys2Proof.Machine
end

section
/-! PROOF. R16: the cursor never passes the length.  Each shared operation keeps the bound, and each
instruction is a composition of them. -/

namespace Sys2Proof.Machine

variable {s t : State}

/-- R16, first clause, with what makes it inductive: in SlaveReceive the stores are guarded by
`rxCapacity`, which is then the length. -/
def State.CursorBound (s : State) : Prop :=
  s.cursor ≤ s.length ∧ (s.role = .slaveReceive → s.length = s.rxCapacity)

namespace State.CursorBound

theorem of_role_ne (hle : s.cursor ≤ s.length) (hr : s.role ≠ .slaveReceive) : s.CursorBound :=
  ⟨hle, fun h => absurd h hr⟩

theorem emit (h : s.CursorBound) (op : Op) : (s.emit op).CursorBound := h

theorem answer (h : s.CursorBound) (b : Bool) : (s.answer b).CursorBound := h

theorem readData (h : s.CursorBound) : s.readData.CursorBound := h

theorem writeData (h : s.CursorBound) (b : Byte) : (s.writeData b).CursorBound := h

theorem sendAddress (h : s.CursorBound) (dir : BitVec 1) : (s.sendAddress dir).CursorBound := h

theorem endStep (h : s.CursorBound) : s.endStep.CursorBound := h

theorem beginStep (h : s.CursorBound) (p : Packet) (rest : List Packet) :
    (s.beginStep p rest).CursorBound := by
  simpa [State.CursorBound] using h

theorem storeByte (h : s.CursorBound) (n : StoreName) (i : Nat) (b : Byte) :
    (s.storeByte n i b).CursorBound := by
  simpa [State.CursorBound] using h

theorem terminate (h : s.CursorBound) : s.terminate.CursorBound :=
  of_role_ne h.1 (by simp)

theorem takeError (h : s.CursorBound) (e : ErrorCode) (op : Op) : (s.takeError e op).CursorBound :=
  of_role_ne h.1 (by simp [State.takeError])

/-- Every increment of the cursor is guarded (R16). -/
theorem advance (h : s.CursorBound) (hlt : s.cursor < s.length) : s.advance.CursorBound :=
  ⟨hlt, h.2⟩

theorem reply (h : s.CursorBound) : s.reply.CursorBound := by
  obtain ⟨-, heq⟩ | ⟨-, heq⟩ | ⟨-, heq⟩ := reply_cases s <;> rw [heq]
  · exact h.emit _
  · exact h.emit _
  · exact (h.emit _).terminate

theorem receive (h : s.CursorBound) : s.receive.CursorBound := by
  obtain ⟨hlt, heq⟩ | ⟨-, heq⟩ := receive_cases s <;> rw [heq]
  · exact (h.readData.storeByte ..).advance (by simpa using hlt)
  · exact h.readData

/-- `sr_data()` tests `rxCapacity`, which is the length in SlaveReceive. -/
theorem receiveSlave (h : s.CursorBound) (hr : s.role = .slaveReceive) :
    s.receiveSlave.CursorBound := by
  obtain ⟨hlt, heq⟩ | ⟨-, heq⟩ := receiveSlave_cases s <;> rw [heq]
  · have hlen : s.cursor < s.length := h.2 hr ▸ hlt
    exact ((h.readData.storeByte ..).advance (by simpa using hlen)).emit _
  · exact h.readData.emit _

theorem sendNext (h : s.CursorBound) : NextSatisfies State.CursorBound s.sendNext := by
  refine nextSatisfies_iff.mpr fun t ht => ?_
  obtain ⟨hlt, b, -, rfl⟩ | ⟨-, rfl⟩ := sendNext_eq_next.mp ht
  · exact ((h.advance hlt).writeData b).emit _
  · exact (h.emit _).terminate

theorem sendSlave (h : s.CursorBound) : NextSatisfies State.CursorBound s.sendSlave := by
  refine nextSatisfies_iff.mpr fun t ht => ?_
  obtain ⟨hlt, b, -, rfl⟩ | ⟨-, rfl⟩ := sendSlave_eq_next.mp ht
  · exact ((h.advance hlt).writeData b).emit _
  · exact h.emit _

/-- The provider's answer rewrites the length only at the trigger, where the cursor is 0 (R121). -/
theorem obtainBytes (hc : s.cursor = 0) (hr : s.role ≠ .slaveReceive) :
    s.obtainBytes.CursorBound := by
  obtain ⟨p, -, heq⟩ | ⟨-, heq⟩ := obtainBytes_cases s <;> rw [heq]
  · exact of_role_ne (hc.trans_le (Nat.zero_le _)) hr
  · exact of_role_ne hc.le hr

theorem triggerReceive (s : State) : s.triggerReceive.CursorBound :=
  ⟨Nat.zero_le _, fun _ => rfl⟩

theorem configure (mode : Mode) (clock : Nat) (own : BusAddress) (cap : Nat) (pullup : Bool)
    (s : State) : (s.configure mode clock own cap pullup).CursorBound :=
  of_role_ne le_rfl nofun

theorem startTransaction {role : Role} (hr : role ≠ .slaveReceive) (address : BusAddress)
    (buffer : Memory) (length : Nat) (s : State) :
    (s.startTransaction role address buffer length).CursorBound :=
  of_role_ne (Nat.zero_le _) hr

theorem idleStSlaAck (s : State) : NextSatisfies State.CursorBound (execIdleStSlaAck s) := by
  refine sendSlave (obtainBytes rfl ?_)
  nofun

theorem mrSlaNack (h : s.CursorBound) : NextSatisfies State.CursorBound (execMrSlaNack s) := by
  unfold execMrSlaNack
  split
  · exact h.takeError _ _
  · exact (h.emit _).terminate

theorem srStop (h : s.CursorBound) : NextSatisfies State.CursorBound (execSrStop s) := by
  unfold execSrStop
  split
  · exact (h.emit _).terminate
  · split
    · exact ((h.emit _).emit _).terminate
    · trivial

theorem stDataAck (h : s.CursorBound) : NextSatisfies State.CursorBound (execStDataAck s) := by
  unfold execStDataAck
  split
  · exact h.sendSlave
  · exact (h.emit _).terminate

/-- Every instruction keeps the bound, if a byte is stored in RXB in SlaveReceive only. -/
theorem of_exec {i : Instr} (h : s.CursorBound) (hrx : storesRxb i = true → s.role = .slaveReceive) :
    NextSatisfies State.CursorBound (exec i s) := by
  cases i with
  | anyBusError | anyArbLost | mtSlaNack | mtDataNack => exact h.takeError _ _
  | anyNoInfo => exact h.terminate
  | idleSrSlaAck | idleSrGcallAck => exact triggerReceive s
  | idleStSlaAck => exact idleStSlaAck s
  | mtStart | mtRepStart | mrStart | mrRepStart => exact h.sendAddress _
  | mtSlaAck | mtDataAck => exact h.sendNext
  | mrSlaAck => exact h.reply
  | mrSlaNack => exact h.mrSlaNack
  | mrDataAck => exact h.receive.reply
  | mrDataNack => exact (h.receive.emit _).terminate
  | srDataAck | srDataNack | srGcallDataAck | srGcallDataNack => exact h.receiveSlave (hrx rfl)
  | srStop => exact h.srStop
  | stDataAck => exact h.stDataAck
  | stDataNack | stLastData => exact (h.emit _).terminate
  | init mode clock own cap pullup =>
    show NextSatisfies _ (execInit ..)
    unfold execInit
    split
    · exact ((configure mode clock own cap pullup s).emit _).emit _
    · exact h
  | disable => exact (h.emit .disableBc).terminate
  | sendTo address data length =>
    show NextSatisfies _ (execSendTo ..)
    unfold execSendTo
    split
    · exact startTransaction (by decide) _ _ _ _
    · exact h.answer _
  | readFrom address buffer length =>
    show NextSatisfies _ (execReadFrom ..)
    unfold execReadFrom
    split
    · exact startTransaction (by decide) _ _ _ _
    · exact h.answer _
  | setRxHandler f =>
    show NextSatisfies _ (execSetRxHandler ..)
    unfold execSetRxHandler
    split <;> exact h
  | setTxProvider p maxLength =>
    show NextSatisfies _ (execSetTxProvider ..)
    unfold execSetTxProvider
    split <;> exact h
  | opNone => exact h
  | opWrData b => exact h.writeData b
  | opRdData => exact h.readData
  | opStart | opStop | opNextAck | opNextNack | opRelease | opEnable | opDisableBc | opSetOwnAddr _
    | opSetClockDiv _ | opCallRx _ _ _ | opCallTx _ => exact h.emit _

theorem of_step (h : s.CursorBound) (hs : step s = .next t) : t.CursorBound := by
  obtain ⟨-, rfl⟩ | ⟨p, rest, i, u, -, hd, hu, rfl⟩ := step_eq_next.mp hs
  · exact h
  · have hrx (hi : storesRxb i = true) : (s.beginStep p rest).role = .slaveReceive := by
      rw [State.beginStep_role]
      exact role_of_decoded hd (handlerRole_of_storesRxb hi)
    exact (nextSatisfies_iff.mp ((h.beginStep p rest).of_exec hrx) u hu).endStep

end State.CursorBound

/-- Settles O12: `CursorBound` holds at reset, and every step keeps it. -/
theorem cursorNeverPassesLength : Obligations.CursorNeverPassesLength :=
  ⟨⟨le_rfl, nofun⟩, fun _ _ hle hrx hs => State.CursorBound.of_step ⟨hle, hrx⟩ hs⟩

end Sys2Proof.Machine
end

section
/-! PROOF. R12: the writers and the readers of `peerAddress`.  An operation that neither writes nor reads
it commutes with replacing it. -/

namespace Sys2Proof.Machine

variable {s t : State}

/-- `s` with another peer address. -/
abbrev State.withPeer (a : BusAddress) (s : State) : State := { s with peerAddress := a }

theorem store_withPeer (a : BusAddress) (n : StoreName) : (s.withPeer a).store n = s.store n := by
  cases n <;> rfl

theorem loadAndSend_withPeer (a : BusAddress) (n : StoreName) {k : State → State}
    (hk : ∀ u, k (u.withPeer a) = (k u).withPeer a) :
    (s.withPeer a).loadAndSend n k = mapNext (State.withPeer a) (s.loadAndSend n k) := by
  cases hb : (s.store n).read s.cursor with
  | none =>
    rw [loadAndSend_of_none hb, loadAndSend_of_none (by rwa [store_withPeer])]
    rfl
  | some b =>
    rw [loadAndSend_of_byte hb, loadAndSend_of_byte (b := b) (by rwa [store_withPeer])]
    exact congrArg Host.Outcome.next (hk (s.advance.writeData b))

theorem sendNext_withPeer (a : BusAddress) :
    (s.withPeer a).sendNext = mapNext (State.withPeer a) s.sendNext := by
  unfold State.sendNext
  rw [apply_ite (mapNext _), loadAndSend_withPeer a .mb (k := State.emit .nextAck) fun _ => rfl]
  rfl

theorem sendSlave_withPeer (a : BusAddress) :
    (s.withPeer a).sendSlave = mapNext (State.withPeer a) s.sendSlave := by
  unfold State.sendSlave
  rw [apply_ite (mapNext _), loadAndSend_withPeer a .txb (k := State.announce) fun _ => rfl]
  rfl

theorem reply_withPeer (a : BusAddress) : (s.withPeer a).reply = s.reply.withPeer a := by
  unfold State.reply
  rw [apply_ite (State.withPeer a), apply_ite (State.withPeer a)]
  rfl

theorem receive_withPeer (a : BusAddress) : (s.withPeer a).receive = s.receive.withPeer a := by
  unfold State.receive
  rw [apply_ite (State.withPeer a)]
  rfl

theorem receiveSlave_withPeer (a : BusAddress) :
    (s.withPeer a).receiveSlave = s.receiveSlave.withPeer a := by
  unfold State.receiveSlave
  rw [apply_ite (State.withPeer a)]
  rfl

theorem obtainBytes_withPeer (a : BusAddress) :
    (s.withPeer a).obtainBytes = s.obtainBytes.withPeer a := by
  unfold State.obtainBytes
  cases s.txProvider <;> rfl

theorem execIdleStSlaAck_withPeer (a : BusAddress) :
    execIdleStSlaAck (s.withPeer a) = mapNext (State.withPeer a) (execIdleStSlaAck s) := by
  unfold execIdleStSlaAck
  rw [← sendSlave_withPeer, ← obtainBytes_withPeer]

theorem execStDataAck_withPeer (a : BusAddress) :
    execStDataAck (s.withPeer a) = mapNext (State.withPeer a) (execStDataAck s) := by
  unfold execStDataAck
  rw [apply_ite (mapNext _), sendSlave_withPeer]
  rfl

theorem execSrStop_withPeer (a : BusAddress) :
    execSrStop (s.withPeer a) = mapNext (State.withPeer a) (execSrStop s) := by
  unfold execSrStop
  cases s.rxHandlerActive with
  | none => rfl
  | some h => cases s.rxb.bytes s.cursor <;> rfl

/-- Outside the four START dispatches and the two writers, another peer address changes nothing else. -/
theorem exec_withPeer (a : BusAddress) {i : Instr} (hw : startsTransaction i = false)
    (hr : isStart i = false) : exec i (s.withPeer a) = mapNext (State.withPeer a) (exec i s) := by
  cases i with
  | sendTo | readFrom => cases hw
  | mtStart | mtRepStart | mrStart | mrRepStart => cases hr
  | mtSlaAck | mtDataAck => exact sendNext_withPeer a
  | mrSlaAck => exact congrArg Host.Outcome.next (reply_withPeer a)
  | mrDataAck =>
    show Host.Outcome.next (s.withPeer a).receive.reply = .next (s.receive.reply.withPeer a)
    rw [receive_withPeer, reply_withPeer]
  | mrDataNack =>
    exact congrArg (fun u : State => Host.Outcome.next (u.emit .stop).terminate) (receive_withPeer a)
  | srDataAck | srDataNack | srGcallDataAck | srGcallDataNack =>
    exact congrArg Host.Outcome.next (receiveSlave_withPeer a)
  | srStop => exact execSrStop_withPeer a
  | idleStSlaAck => exact execIdleStSlaAck_withPeer a
  | stDataAck => exact execStDataAck_withPeer a
  | mrSlaNack | init | setRxHandler | setTxProvider =>
    simp only [exec, execMrSlaNack, execInit, execSetRxHandler, execSetTxProvider, apply_ite (mapNext _)]
    rfl
  | anyBusError | anyArbLost | anyNoInfo | idleSrSlaAck | idleSrGcallAck | mtSlaNack | mtDataNack
    | stDataNack | stLastData | disable => rfl
  | opNone | opStart | opStop | opNextAck | opNextNack | opRelease | opWrData | opRdData | opEnable
    | opDisableBc | opSetOwnAddr | opSetClockDiv | opCallRx | opCallTx => rfl

/-- A START dispatch sends the address byte of some direction (R90, R91, R100, R101). -/
theorem exec_of_isStart {i : Instr} (h : isStart i = true) :
    ∃ dir, exec i s = .next (s.sendAddress dir) := by
  simp only [isStart, List.mem_cons, List.not_mem_nil, or_false, decide_eq_true_eq] at h
  obtain rfl | rfl | rfl | rfl := h <;> exact ⟨_, rfl⟩

theorem sendAddress_out (dir : BitVec 1) (s : State) :
    (s.sendAddress dir).out = s.out ++ [.wrData (addressByte s.peerAddress dir), .nextAck] := by
  simp [State.sendAddress]

/-- Only `SEND_TO` and `READ_FROM` write the peer address.  An instruction that commutes with replacing it
keeps it: replace it by itself. -/
theorem exec_peerAddress {i : Instr} (hw : startsTransaction i = false) (h : exec i s = .next t) :
    t.peerAddress = s.peerAddress := by
  cases hr : isStart i with
  | true =>
    obtain ⟨dir, hdir⟩ := exec_of_isStart (s := s) hr
    cases hdir.symm.trans h
    rfl
  | false =>
    have hself : exec i s = mapNext (State.withPeer s.peerAddress) (exec i s) :=
      exec_withPeer s.peerAddress hw hr
    rw [h] at hself
    have ht : t = t.withPeer s.peerAddress := Host.Outcome.next.inj hself
    exact (congrArg State.peerAddress ht :)

/-- `SEND_TO` and `READ_FROM` start a transaction or answer that they did not (R83, R84). -/
theorem exec_of_startsTransaction {i : Instr} (hi : startsTransaction i = true) :
    ∃ role address buffer length, ∀ s : State, exec i s =
      if s.acceptsTransaction then .next (s.startTransaction role address buffer length)
      else .next (s.answer false) := by
  cases i with
  | sendTo | readFrom => exact ⟨_, _, _, _, fun _ => rfl⟩
  | _ => cases hi

/-- A transaction that starts overwrites the peer address; one that is dropped leaves it (R83, R84). -/
theorem exec_withPeer_of_startsTransaction (a : BusAddress) {i : Instr}
    (hi : startsTransaction i = true) :
    exec i (s.withPeer a) =
      mapNext (fun t => if s.acceptsTransaction then t else t.withPeer a) (exec i s) := by
  obtain ⟨role, address, buffer, length, heq⟩ := exec_of_startsTransaction hi
  have hacc : (s.withPeer a).acceptsTransaction = s.acceptsTransaction := rfl
  rw [heq, heq, hacc]
  cases s.acceptsTransaction <;> rfl

/-- Settles O17: replacing the peer address shows who writes it and who reads it. -/
theorem peerAddressWritersAndReaders : Obligations.PeerAddressWritersAndReaders := by
  refine ⟨fun _ _ _ hw h => exec_peerAddress hw h, fun _ _ a hw hr => exec_withPeer a hw hr,
    fun i s hi => ?_, fun _ _ a hi => exec_withPeer_of_startsTransaction a hi⟩
  obtain ⟨dir, h⟩ := exec_of_isStart (s := s) hi
  exact ⟨_, dir, h, sendAddress_out dir s⟩

end Sys2Proof.Machine
end

section
/-! PROOF. R66: the address byte is the address followed by the direction bit, and which direction each
START dispatch sends. -/

namespace Sys2Proof.Machine

variable {s t : State}

/-- R66: the address byte is the seven address bits followed by the direction bit. -/
theorem addressByte_eq_append (a : BusAddress) (dir : BitVec 1) : addressByte a dir = a ++ dir := by
  rw [BitVec.append_def, BitVec.shiftLeftZeroExtend_eq, BitVec.setWidth'_eq]
  rfl

theorem addressByte_extractLsb'_address (a : BusAddress) (dir : BitVec 1) :
    (addressByte a dir).extractLsb' 1 7 = a := by
  rw [addressByte_eq_append]
  exact BitVec.extractLsb'_append_eq_left

theorem addressByte_extractLsb'_direction (a : BusAddress) (dir : BitVec 1) :
    (addressByte a dir).extractLsb' 0 1 = dir := by
  rw [addressByte_eq_append]
  exact BitVec.extractLsb'_append_eq_right

theorem addressByte_toNat (a : BusAddress) (dir : BitVec 1) :
    (addressByte a dir).toNat = 2 * a.toNat + dir.toNat := by
  have hshift : a.toNat <<< 1 + dir.toNat = a.toNat <<< 1 ||| dir.toNat :=
    Nat.shiftLeft_add_eq_or_of_lt dir.isLt _
  rw [addressByte_eq_append, BitVec.toNat_append, ← hshift, Nat.shiftLeft_eq]
  omega

@[simp] theorem sendAddress_dr (dir : BitVec 1) (s : State) :
    (s.sendAddress dir).dr = addressByte s.peerAddress dir := by
  simp [State.sendAddress]

/-- R90, R91: the START dispatches of MasterTransmit send the direction bit of a write. -/
theorem exec_of_transmitStart {i : Instr} (hi : i = .mtStart ∨ i = .mtRepStart) :
    exec i s = .next (s.sendAddress writeDir) := by
  obtain rfl | rfl := hi <;> rfl

/-- R100, R101: the START dispatches of MasterReceive send the direction bit of a read. -/
theorem exec_of_receiveStart {i : Instr} (hi : i = .mrStart ∨ i = .mrRepStart) :
    exec i s = .next (s.sendAddress readDir) := by
  obtain rfl | rfl := hi <;> rfl

/-- What an instruction that sends the address byte leaves in the data register. -/
theorem dr_of_exec_eq_sendAddress {i : Instr} {dir : BitVec 1}
    (hi : exec i s = .next (s.sendAddress dir)) (h : exec i s = .next t) :
    t.dr = addressByte s.peerAddress dir := by
  cases hi.symm.trans h
  exact sendAddress_dr dir s

/-- Settles O39: the byte is an append, so its parts are the operands; a START dispatch is
`sendAddress` with its role's direction. -/
theorem addressByteLayout : Obligations.AddressByteLayout := by
  refine ⟨fun a dir => ?_, by decide, by decide, fun s t i hi h => ?_, fun s t i hi h => ?_⟩
  · exact ⟨addressByte_extractLsb'_address a dir, addressByte_extractLsb'_direction a dir,
      addressByte_toNat a dir⟩
  · exact dr_of_exec_eq_sendAddress (exec_of_transmitStart hi) h
  · exact dr_of_exec_eq_sendAddress (exec_of_receiveStart hi) h

end Sys2Proof.Machine
end

section
/-! PROOF. R94, R95: a byte not acknowledged in MasterTransmit is the shared error exit with `MissingAck`
and `STOP`. -/

namespace Sys2Proof.Machine

variable {s : State}

/-- R94, R95: both dispatches take the error exit with `MissingAck` and `STOP`. -/
theorem exec_of_transmitNack {i : Instr} (hi : i = .mtSlaNack ∨ i = .mtDataNack) :
    exec i s = .next (s.takeError .missingAck .stop) := by
  obtain rfl | rfl := hi <;> rfl

/-- All that the error exit writes: the error, the role and one operation. -/
theorem takeError_eq (e : ErrorCode) (op : Op) (s : State) :
    s.takeError e op = { s with lastError := e, role := .idle, out := s.out ++ [op] } := rfl

/-- Settles O42: both dispatches are the error exit, which writes those three fields only; their words
are two rows of the default table. -/
theorem masterSendNotAcknowledgedEnds : Obligations.MasterSendNotAcknowledgedEnds := by
  refine ⟨fun s i hi => ?_, by decide, by decide⟩
  rw [exec_of_transmitNack hi, takeError_eq]

end Sys2Proof.Machine
end

section
/-! PROOF. R131: a bus error takes the shared error exit with `BusError` and `STOP`, in every role; R65:
the common rows do not look at the role bits. -/

namespace Sys2Proof.Machine

/-- R64: the lower bits of a dispatch word are the status code. -/
@[simp] theorem dispatchStatus_dispatchWord (r : BitVec 3) (c : BitVec 8) :
    dispatchStatus (dispatchWord r c) = c := by
  unfold dispatchStatus dispatchWord
  exact BitVec.extractLsb'_append_eq_right

/-- A status code whose class has a common handler selects it under any role bits (mask 0x0FF). -/
theorem decode_dispatchWord_of_dispatchAny {cfg : Config} {c : BitVec 8} {i : Instr}
    (h : dispatchAny (statusDecode cfg.statusTable c) = some i) (r : BitVec 3) :
    decode cfg (.dispatch (dispatchWord r c)) = .ok i := by
  rw [decode_dispatch_eq_ok]
  simp only [decodeDispatch, dispatchStatus_dispatchWord, h]

/-- R131: the dispatch takes the error exit with `BusError` and `STOP`. -/
theorem exec_anyBusError (s : State) : exec .anyBusError s = .next (s.takeError .busError .stop) := rfl

/-- R61, R65: code 0 of the default table has the common handler for a bus error. -/
theorem dispatchAny_standard_busError :
    dispatchAny (statusDecode Config.standard.statusTable 0x00) = some .anyBusError := by decide

/-- Settles O53: the dispatch is the error exit, which writes those three fields only; its word selects
a common handler, so the role bits do not matter. -/
theorem busErrorStopsAndReturnsToIdle : Obligations.BusErrorStopsAndReturnsToIdle := by
  refine ⟨fun s => ?_, decode_dispatchWord_of_dispatchAny dispatchAny_standard_busError⟩
  rw [exec_anyBusError, takeError_eq]

end Sys2Proof.Machine
end

section
/-! SUPPORT. R155: what an instruction appends to the output list, read off the operations it is made
of, and how a step with a decoded input runs. -/

namespace Sys2Proof.Machine

variable {s t : State}

theorem listWrAck_iff {l : List Op} : listWrAck l = true ↔ ∃ b, l = [.wrData b, .nextAck] := by
  unfold listWrAck
  split
  · simp
  · next hne => simpa using hne

theorem listWrNack_iff {l : List Op} : listWrNack l = true ↔ ∃ b, l = [.wrData b, .nextNack] := by
  unfold listWrNack
  split
  · simp
  · next hne => simpa using hne

theorem listCallTx_iff {k : List Op → Bool} {l : List Op} :
    listCallTx k l = true ↔ ∃ p rest, l = .callTx p :: rest ∧ k rest = true := by
  unfold listCallTx
  split
  · simp
  · next hne => simpa using fun p rest h => absurd h (hne p rest)

theorem listCallRx_iff {l : List Op} :
    listCallRx l = true ↔ ∃ h bytes, l = [.callRx h bytes bytes.length, .nextAck] := by
  unfold listCallRx
  split
  · simp [eq_comm]
  · next hne => simpa using fun h bytes => hne h bytes bytes.length

/-- `t` has the output list of `s` with a list appended that satisfies `l`. -/
def State.Appends (s t : State) (l : List Op → Bool) : Prop :=
  ∃ ops, t.out = s.out ++ ops ∧ l ops = true

/-- R92, R93: a byte with `NEXT_ACK`, or `STOP`. -/
theorem sendNext_appends (h : s.sendNext = .next t) :
    s.Appends t fun l => listWrAck l || l == [.stop] := by
  obtain ⟨-, b, -, rfl⟩ | ⟨-, rfl⟩ := sendNext_eq_next.mp h
  · exact ⟨[.wrData b, .nextAck], by simp, rfl⟩
  · exact ⟨[.stop], rfl, rfl⟩

/-- R102: one control operation. -/
theorem reply_appends (s : State) :
    s.Appends s.reply fun l => l == [.nextAck] || l == [.nextNack] || l == [.stop] := by
  obtain ⟨-, heq⟩ | ⟨-, heq⟩ | ⟨-, heq⟩ := reply_cases s <;> rw [heq]
  · exact ⟨[.nextAck], rfl, rfl⟩
  · exact ⟨[.nextNack], rfl, rfl⟩
  · exact ⟨[.stop], rfl, rfl⟩

/-- R104, R105: the byte is read whether or not it is stored. -/
@[simp] theorem receive_out (s : State) : s.receive.out = s.out ++ [.rdData] := by
  obtain ⟨-, heq⟩ | ⟨-, heq⟩ := receive_cases s <;> simp [heq]

/-- R112: the byte is read, and one control operation replies to it. -/
theorem receiveSlave_appends (s : State) :
    s.Appends s.receiveSlave fun l => l == [.rdData, .nextAck] || l == [.rdData, .nextNack] := by
  obtain ⟨-, heq⟩ | ⟨-, heq⟩ := receiveSlave_cases s <;> rw [heq]
  · exact ⟨[.rdData, .nextAck], by simp, rfl⟩
  · exact ⟨[.rdData, .nextNack], by simp, rfl⟩

/-- R120: the reply announced is `NEXT_ACK` or `NEXT_NACK`. -/
theorem announce_eq_emit (s : State) :
    ∃ op, (op = .nextAck ∨ op = .nextNack) ∧ s.announce = s.emit op := by
  unfold State.announce
  split
  · exact ⟨_, .inl rfl, rfl⟩
  · exact ⟨_, .inr rfl, rfl⟩

/-- R120: a byte and its reply while bytes remain, and the reply alone when none does. -/
theorem sendSlave_appends (h : s.sendSlave = .next t) :
    s.Appends t fun l =>
      if s.cursor < s.length then listWrAck l || listWrNack l else l == [.nextNack] := by
  obtain ⟨hlt, b, -, rfl⟩ | ⟨hge, rfl⟩ := sendSlave_eq_next.mp h
  · obtain ⟨op, hop, heq⟩ := announce_eq_emit (s.advance.writeData b)
    refine ⟨[.wrData b, op], by simp [heq], ?_⟩
    simp only [hlt, if_true]
    obtain rfl | rfl := hop <;> rfl
  · exact ⟨[.nextNack], rfl, by simp [hge]⟩

theorem execStDataAck_appends (h : execStDataAck s = .next t) :
    s.Appends t (producible .stDataAck) := by
  unfold execStDataAck at h
  split at h
  case isTrue hlt =>
    obtain ⟨ops, hout, hl⟩ := sendSlave_appends h
    simp only [hlt, if_true] at hl
    exact ⟨ops, hout, by simp [producible, hl]⟩
  case isFalse =>
    cases h
    exact ⟨[.nextAck], rfl, rfl⟩

/-- R121: with no provider there are no bytes, so that the list is the reply alone. -/
theorem execIdleStSlaAck_appends (h : execIdleStSlaAck s = .next t) :
    s.Appends t (producible .idleStSlaAck) := by
  obtain ⟨ops, hout, hl⟩ := sendSlave_appends h
  obtain ⟨p, -, heq⟩ | ⟨-, heq⟩ := obtainBytes_cases
    { s with role := .slaveTransmit, lastError := .ok, cursor := 0 }
  · refine ⟨.callTx p :: ops, by simp [hout, heq, State.callProvider], ?_⟩
    split at hl <;> simp [producible, listCallTx, hl]
  · simp only [heq, Nat.not_lt_zero, if_false] at hl
    exact ⟨ops, by simp [hout, heq], by simp [producible, hl]⟩

theorem execMrSlaNack_appends (h : execMrSlaNack s = .next t) : s.Appends t (· == [.stop]) := by
  unfold execMrSlaNack at h
  split at h <;> cases h <;> exact ⟨[.stop], rfl, rfl⟩

/-- R117: the count handed over is the number of the bytes. -/
theorem execSrStop_appends (h : execSrStop s = .next t) : s.Appends t (producible .srStop) := by
  unfold execSrStop at h
  split at h
  · cases h
    exact ⟨[.nextAck], rfl, rfl⟩
  · split at h
    case h_1 f _ _ bytes hbytes =>
      cases h
      exact ⟨[.callRx f bytes s.cursor, .nextAck], by simp [State.callHandler],
        by simp [producible, listCallRx, Memory.length_bytes hbytes]⟩
    case h_2 => cases h

/-- R81: an accepted `INIT` emits the configuration operation of its mode and `ENABLE`, a refused one
changes nothing. -/
theorem execInit_eq_next {mode : Mode} {clock cap : Nat} {own : BusAddress} {pullup : Bool} :
    execInit mode clock own cap pullup s = .next t ↔
      (s.acceptsInit mode clock cap = true ∧
        t = ((s.configure mode clock own cap pullup).emit (configOp mode clock own)).emit .enable) ∨
      (s.acceptsInit mode clock cap = false ∧ t = s) := by
  unfold execInit
  split <;> rename_i h <;> simp [h, eq_comm]

theorem execInit_appends {mode : Mode} {clock cap : Nat} {own : BusAddress} {pullup : Bool}
    (h : execInit mode clock own cap pullup s = .next t) :
    s.Appends t (producible (.init mode clock own cap pullup)) := by
  obtain ⟨-, rfl⟩ | ⟨-, rfl⟩ := execInit_eq_next.mp h
  · exact ⟨[configOp mode clock own, .enable], by simp [State.configure],
      by cases mode <;> simp [producible, configOp]⟩
  · exact ⟨[], by simp, by cases mode <;> rfl⟩

/-- R83, R84: what a command that starts a transaction does, by its acceptance condition. -/
theorem exec_eq_next_of_startsTransaction {i : Instr} (hi : startsTransaction i = true)
    (h : exec i s = .next t) :
    (s.acceptsTransaction = true ∧ t.out = s.out ++ [.start] ∧ t.accepted = some true) ∨
    (s.acceptsTransaction = false ∧ t.out = s.out ∧ t.accepted = some false) := by
  obtain ⟨role, address, buffer, length, heq⟩ := exec_of_startsTransaction hi
  rw [heq] at h
  split at h <;> rename_i hacc <;> cases h
  · exact .inl ⟨hacc, rfl, rfl⟩
  · exact .inr ⟨by simpa using hacc, rfl, rfl⟩

theorem startsTransaction_appends {i : Instr} (hi : startsTransaction i = true)
    (h : exec i s = .next t) : s.Appends t fun l => l == [] || l == [.start] := by
  obtain ⟨-, hout, -⟩ | ⟨-, hout, -⟩ := exec_eq_next_of_startsTransaction hi h
  · exact ⟨[.start], hout, rfl⟩
  · exact ⟨[], by simp [hout], rfl⟩

/-- R85, R86: a registration emits nothing, accepted or not. -/
theorem registration_appends {i : Instr} (hi : isSetRx i = true ∨ isSetTx i = true)
    (h : exec i s = .next t) : s.Appends t (· == []) := by
  refine ⟨[], ?_, rfl⟩
  cases i with
  | setRxHandler f =>
    simp only [exec, execSetRxHandler] at h
    split at h <;> cases h <;> simp
  | setTxProvider p maxLength =>
    simp only [exec, execSetTxProvider] at h
    split at h <;> cases h <;> simp
  | _ => simp [isSetRx, isSetTx] at hi

/-- R155: an instruction appends one of the lists that the table gives it. -/
theorem exec_appends_producible {i : Instr} (h : exec i s = .next t) :
    s.Appends t (producible i) := by
  cases i with
  | mtStart | mtRepStart | mrStart | mrRepStart =>
    cases h
    exact ⟨_, sendAddress_out _ s, rfl⟩
  | mtSlaAck | mtDataAck => exact sendNext_appends h
  | mrSlaAck =>
    cases h
    exact reply_appends s
  | mrDataAck =>
    cases h
    obtain ⟨ops, hout, hl⟩ := reply_appends s.receive
    exact ⟨.rdData :: ops, by simp [hout], by simpa [producible, or_assoc] using hl⟩
  | mrDataNack =>
    cases h
    exact ⟨[.rdData, .stop], by simp, rfl⟩
  | mrSlaNack => exact execMrSlaNack_appends h
  | srDataAck | srDataNack | srGcallDataAck | srGcallDataNack =>
    cases h
    exact receiveSlave_appends s
  | srStop => exact execSrStop_appends h
  | idleStSlaAck => exact execIdleStSlaAck_appends h
  | stDataAck => exact execStDataAck_appends h
  | init => exact execInit_appends h
  | sendTo | readFrom => exact startsTransaction_appends rfl h
  | setRxHandler => exact registration_appends (.inl rfl) h
  | setTxProvider => exact registration_appends (.inr rfl) h
  | anyNoInfo | opNone =>
    cases h
    exact ⟨[], (List.append_nil _).symm, rfl⟩
  | anyBusError | anyArbLost | mtSlaNack | mtDataNack | idleSrSlaAck | idleSrGcallAck | stDataNack
    | stLastData | disable =>
    cases h
    exact ⟨_, rfl, rfl⟩
  | opStart | opStop | opNextAck | opNextNack | opRelease | opWrData | opRdData | opEnable
    | opDisableBc | opSetOwnAddr | opSetClockDiv | opCallRx | opCallTx =>
    cases h
    exact ⟨_, rfl, beq_self_eq_true _⟩

/-- A step with a decoded input runs the instruction and leaves (R167, R168). -/
theorem exec_of_step {p : Packet} {rest : List Packet} {i : Instr} (hin : s.inbox = p :: rest)
    (hd : decoded s p rest = .ok i) (hs : step s = .next t) :
    ∃ u, exec i (s.beginStep p rest) = .next u ∧ t = u.endStep :=
  leave_eq_next.mp ((step_ok hin hd).symm.trans hs)

/-- R155: the output list of a step is one of those the table gives its instruction. -/
theorem producible_step {p : Packet} {rest : List Packet} {i : Instr} (hin : s.inbox = p :: rest)
    (hd : decoded s p rest = .ok i) (hs : step s = .next t) : producible i t.out = true := by
  obtain ⟨u, hu, rfl⟩ := exec_of_step hin hd hs
  obtain ⟨ops, hout, hl⟩ := exec_appends_producible hu
  rw [State.beginStep_out, List.nil_append] at hout
  rwa [State.endStep_out, hout]

end Sys2Proof.Machine
end

section
/-! PROOF. R142, R147, R149, R150: which instructions an operation comes from, when the input is one of
the spec's own, and what the step that emits it does. -/

namespace Sys2Proof.Machine

variable {s t : State}

theorem isDispatch_of_dispatchAny {c : StatusClass} {i : Instr} (h : dispatchAny c = some i) :
    isDispatch i = true := by
  cases c <;> cases h <;> rfl

theorem isDispatch_of_dispatchRole {r : Role} {c : StatusClass} {i : Instr}
    (h : dispatchRole r c = some i) : isDispatch i = true := by
  cases r <;> cases c <;> cases h <;> rfl

/-- R65: an interrupt selects a dispatch. -/
theorem isDispatch_of_decoded {c : BitVec 8} {b : Byte} {tx : List Byte} {rest : List Packet}
    {i : Instr} (hd : decoded s (.interrupt c b tx) rest = .ok i) : isDispatch i = true := by
  have h := decode_dispatch_eq_ok.mp hd
  unfold decodeDispatch at h
  split at h
  case h_1 hany =>
    cases h
    exact isDispatch_of_dispatchAny hany
  case h_2 =>
    split at h
    · cases h
    · exact isDispatch_of_dispatchRole h

/-- R68: a command packet selects a command. -/
theorem isCommand_of_decoded {cop : BitVec 3} {args : CommandArgs} {rest : List Packet} {i : Instr}
    (hd : decoded s (.command cop args) rest = .ok i) : isCommand i = true := by
  have h := decodeCommand_of_decode hd
  unfold decodeCommand at h
  split_ifs at h <;> cases h <;> rfl

theorem isDispatch_or_isCommand_of_decoded {p : Packet} {rest : List Packet} {i : Instr}
    (hp : p.isExternal = true) (hd : decoded s p rest = .ok i) :
    isDispatch i = true ∨ isCommand i = true := by
  cases p with
  | interrupt => exact .inl (isDispatch_of_decoded hd)
  | command => exact .inr (isCommand_of_decoded hd)
  | operation => cases hp

/-- R142, R147, R149, R150: whether an operation may come from a dispatch or a command; the other
operations are not restricted here. -/
def mayEmit (i : Instr) : Op → Bool
  | .start => startsTransaction i
  | .wrData _ => isStart i || sendsByte i
  | .enable => isInit i
  | .disableBc => decide (i = .disable)
  | _ => true

/-- Every list of R155's table keeps to the "emitted only by" clauses. -/
theorem all_mayEmit_of_producible {i : Instr} {l : List Op}
    (hi : isDispatch i = true ∨ isCommand i = true) (h : producible i l = true) :
    l.all (mayEmit i) = true := by
  cases i with
  | mtStart | mtRepStart | mrStart | mrRepStart =>
    obtain ⟨b, rfl⟩ := listWrAck_iff.mp h
    rfl
  | mtSlaAck | mtDataAck =>
    simp only [producible, Bool.or_eq_true, beq_iff_eq, listWrAck_iff] at h
    obtain ⟨b, rfl⟩ | rfl := h <;> rfl
  | stDataAck =>
    simp only [producible, Bool.or_eq_true, beq_iff_eq, listWrAck_iff, listWrNack_iff] at h
    obtain (⟨b, rfl⟩ | ⟨b, rfl⟩) | rfl := h <;> rfl
  | idleStSlaAck =>
    simp only [producible, Bool.or_eq_true, beq_iff_eq, listCallTx_iff, listWrAck_iff,
      listWrNack_iff] at h
    obtain ((⟨p, _, rfl, b, rfl⟩ | ⟨p, _, rfl, b, rfl⟩) | ⟨p, _, rfl, rfl⟩) | rfl := h <;> rfl
  | srStop =>
    simp only [producible, Bool.or_eq_true, beq_iff_eq, listCallRx_iff] at h
    obtain ⟨f, bytes, rfl⟩ | rfl := h <;> rfl
  | mrSlaAck | mrDataAck =>
    simp only [producible, Bool.or_eq_true, beq_iff_eq] at h
    obtain (rfl | rfl) | rfl := h <;> rfl
  | srDataAck | srDataNack | srGcallDataAck | srGcallDataNack | sendTo | readFrom =>
    simp only [producible, Bool.or_eq_true, beq_iff_eq] at h
    obtain rfl | rfl := h <;> rfl
  | init mode =>
    cases mode <;> simp only [producible, Bool.or_eq_true, beq_iff_eq] at h <;>
      obtain rfl | rfl := h <;> rfl
  | anyBusError | anyArbLost | anyNoInfo | mtSlaNack | mtDataNack | mrSlaNack | mrDataNack
    | idleSrSlaAck | idleSrGcallAck | stDataNack | stLastData | disable | setRxHandler
    | setTxProvider =>
    obtain rfl := eq_of_beq h
    rfl
  | opNone | opStart | opStop | opNextAck | opNextNack | opRelease | opWrData | opRdData | opEnable
    | opDisableBc | opSetOwnAddr | opSetClockDiv | opCallRx | opCallTx =>
    obtain hi | hi := hi <;> cases hi

/-- What a step with one of the spec's own inputs emits comes from an instruction that may emit it. -/
theorem mayEmit_of_step {p : Packet} {rest : List Packet} {i : Instr} {op : Op}
    (hin : s.inbox = p :: rest) (hp : p.isExternal = true) (hd : decoded s p rest = .ok i)
    (hs : step s = .next t) (hop : op ∈ t.out) : mayEmit i op = true :=
  List.all_eq_true.mp (all_mayEmit_of_producible (isDispatch_or_isCommand_of_decoded hp hd)
    (producible_step hin hd hs)) op hop

/-! ### `START` -/

theorem not_isDispatch_of_startsTransaction {i : Instr} (hi : startsTransaction i = true) :
    isDispatch i = false := by
  cases i with
  | sendTo | readFrom => rfl
  | _ => cases hi

/-- A step of `SEND_TO` or `READ_FROM` emits `START` alone, from Idle, or is dropped (R83, R84). -/
theorem step_of_startsTransaction {p : Packet} {rest : List Packet} {i : Instr}
    (hi : startsTransaction i = true) (hin : s.inbox = p :: rest) (hd : decoded s p rest = .ok i)
    (hs : step s = .next t) :
    (s.role = .idle ∧ t.out = [.start] ∧ t.accepted = some true) ∨
    (t.out = [] ∧ t.accepted = some false) := by
  obtain ⟨u, hu, rfl⟩ := exec_of_step hin hd hs
  obtain ⟨hacc, hout, hans⟩ | ⟨-, hout, hans⟩ := exec_eq_next_of_startsTransaction hi hu
  · refine .inl ⟨?_, by simpa using hout, hans⟩
    simp only [State.acceptsTransaction, Bool.and_eq_true, decide_eq_true_eq,
      State.beginStep_role] at hacc
    exact hacc.2
  · exact .inr ⟨by simpa using hout, hans⟩

/-- Settles O26: `START` comes from the two commands only, and their step emits it exactly when it is
accepted; an interrupt decodes to neither of them. -/
theorem startComesOnlyFromAcceptedCommands : Obligations.StartComesOnlyFromAcceptedCommands := by
  refine ⟨rfl, fun s t p rest i hin hp hd hs => ?_⟩
  have hcmd : .start ∈ t.out → startsTransaction i = true := mayEmit_of_step hin hp hd hs
  refine ⟨⟨fun hm => ⟨hcmd hm, ?_⟩, fun ⟨hi, hans⟩ => ?_⟩, fun hm => ?_⟩
  · obtain ⟨-, -, hans⟩ | ⟨hout, -⟩ := step_of_startsTransaction (hcmd hm) hin hd hs
    · exact hans
    · simp [hout] at hm
  · obtain ⟨-, hout, -⟩ | ⟨-, hans'⟩ := step_of_startsTransaction hi hin hd hs
    · simp [hout]
    · simp [hans'] at hans
  · obtain ⟨hrole, hout, -⟩ | ⟨hout, -⟩ := step_of_startsTransaction (hcmd hm) hin hd hs
    · refine ⟨hrole, hout, fun c b tx hint => ?_⟩
      subst hint
      have hdis := isDispatch_of_decoded hd
      rw [not_isDispatch_of_startsTransaction (hcmd hm)] at hdis
      cases hdis
    · simp [hout] at hm

/-! ### `ENABLE` and `DISABLE_BC` -/

/-- An `INIT` that emits `ENABLE` is an accepted one (R81). -/
theorem acceptsInit_of_enable_mem {mode : Mode} {clock cap : Nat} {own : BusAddress} {pullup : Bool}
    (h : execInit mode clock own cap pullup s = .next t) (hs : .enable ∉ s.out)
    (hm : .enable ∈ t.out) :
    t.enabled = true ∧ (∃ l, t.out = l ++ [.enable]) ∧ s.acceptsInit mode clock cap = true := by
  obtain ⟨hacc, rfl⟩ | ⟨-, rfl⟩ := execInit_eq_next.mp h
  · exact ⟨rfl, ⟨_, rfl⟩, hacc⟩
  · exact absurd hm hs

/-- Entering a step does not change what `INIT` is accepted on. -/
@[simp] theorem beginStep_acceptsInit (p : Packet) (rest : List Packet) (s : State) (mode : Mode)
    (clock cap : Nat) :
    (s.beginStep p rest).acceptsInit mode clock cap = s.acceptsInit mode clock cap := by
  simp [State.acceptsInit]

/-- Settles O29: `ENABLE` comes from `INIT` only, which emits it when it is accepted; `DISABLE_BC` comes
from `DISABLE` only, whose list is just it. -/
theorem enableAndDisableOperations : Obligations.EnableAndDisableOperations := by
  refine ⟨rfl, rfl, fun s t p rest i hin hp hd hs => ⟨fun hm => ?_, fun hm => ?_, fun hi => ?_⟩⟩
  · have hi : isInit i = true := mayEmit_of_step hin hp hd hs hm
    obtain ⟨u, hu, rfl⟩ := exec_of_step hin hd hs
    cases i with
    | init mode clock own cap pullup =>
      obtain ⟨hen, hlast, hacc⟩ := acceptsInit_of_enable_mem hu (by simp) hm
      exact ⟨hen, hlast, mode, clock, own, cap, pullup, rfl, by simpa using hacc⟩
    | _ => cases hi
  · exact of_decide_eq_true (mayEmit_of_step hin hp hd hs hm)
  · subst hi
    have hout : t.out = [.disableBc] := eq_of_beq (producible_step hin hd hs)
    simp [hout]

/-! ### `WR_DATA` -/

/-- R147: `b` is in the data register, and its `WR_DATA` is followed by the reply that ends the list. -/
def State.JustWrote (b : Byte) (t : State) : Prop :=
  t.dr = b ∧ ∃ l op, t.out = l ++ [.wrData b, op] ∧ (op = .nextAck ∨ op = .nextNack)

/-- R147: MB or TXB holds `b` at the cursor before its last increment. -/
def State.HoldsBeforeCursor (b : Byte) (t : State) : Prop :=
  ∃ k, t.cursor = k + 1 ∧ (t.mb.read k = some b ∨ t.txb.read k = some b)

theorem justWrote_writeData_emit {op : Op} (hop : op = .nextAck ∨ op = .nextNack) (b : Byte)
    (s : State) : ((s.writeData b).emit op).JustWrote b :=
  ⟨rfl, s.out, op, by simp, hop⟩

/-- A START dispatch writes one byte, its address byte (R90, R91, R100, R101). -/
theorem wrData_of_isStart {i : Instr} {b : Byte} (hi : isStart i = true) (h : exec i s = .next t)
    (hs : .wrData b ∉ s.out) (hm : .wrData b ∈ t.out) :
    t.JustWrote b ∧ ∃ dir, b = addressByte s.peerAddress dir := by
  obtain ⟨dir, hdir⟩ := exec_of_isStart (s := s) hi
  cases hdir.symm.trans h
  obtain rfl : b = addressByte s.peerAddress dir := by simpa [sendAddress_out, hs] using hm
  exact ⟨justWrote_writeData_emit (.inl rfl) _ s, dir, rfl⟩

/-- The byte that the byte-acknowledged event writes is the one of MB at the cursor (R92, R93). -/
theorem wrData_of_sendNext {b : Byte} (h : s.sendNext = .next t) (hs : .wrData b ∉ s.out)
    (hm : .wrData b ∈ t.out) : t.JustWrote b ∧ t.HoldsBeforeCursor b := by
  obtain ⟨-, c, hc, rfl⟩ | ⟨-, rfl⟩ := sendNext_eq_next.mp h
  · obtain rfl : b = c := by simpa [hs] using hm
    exact ⟨justWrote_writeData_emit (.inl rfl) b _, s.cursor, rfl, .inl hc⟩
  · simp [hs] at hm

/-- The byte that the send step of slave-transmit writes is the one of TXB at the cursor (R120). -/
theorem wrData_of_sendSlave {b : Byte} (h : s.sendSlave = .next t) (hs : .wrData b ∉ s.out)
    (hm : .wrData b ∈ t.out) : t.JustWrote b ∧ t.HoldsBeforeCursor b := by
  obtain ⟨-, c, hc, rfl⟩ | ⟨-, rfl⟩ := sendSlave_eq_next.mp h
  · obtain ⟨op, hop, heq⟩ := announce_eq_emit (s.advance.writeData c)
    rw [heq] at hm ⊢
    obtain rfl : b = c := by obtain rfl | rfl := hop <;> simpa [hs] using hm
    exact ⟨justWrote_writeData_emit hop b _, s.cursor, rfl, .inr hc⟩
  · simp [hs] at hm

/-- Asking the provider writes no byte (R121). -/
theorem wrData_notMem_obtainBytes {b : Byte} (hs : .wrData b ∉ s.out) :
    .wrData b ∉ s.obtainBytes.out := by
  obtain ⟨p, -, heq⟩ | ⟨-, heq⟩ := obtainBytes_cases s <;> simp [heq, State.callProvider, hs]

theorem wrData_of_execStDataAck {b : Byte} (h : execStDataAck s = .next t) (hs : .wrData b ∉ s.out)
    (hm : .wrData b ∈ t.out) : t.JustWrote b ∧ t.HoldsBeforeCursor b := by
  unfold execStDataAck at h
  split at h
  · exact wrData_of_sendSlave h hs hm
  · cases h
    simp [State.rearm, hs] at hm

/-- A dispatch that sends a byte of a store writes the byte at the cursor it found (R55). -/
theorem wrData_of_sendsByte {i : Instr} {b : Byte} (hi : sendsByte i = true) (h : exec i s = .next t)
    (hs : .wrData b ∉ s.out) (hm : .wrData b ∈ t.out) : t.JustWrote b ∧ t.HoldsBeforeCursor b := by
  simp only [sendsByte, List.mem_cons, List.not_mem_nil, or_false, decide_eq_true_eq] at hi
  obtain rfl | rfl | rfl | rfl := hi
  · exact wrData_of_sendNext h hs hm
  · exact wrData_of_sendNext h hs hm
  · exact wrData_of_sendSlave h (wrData_notMem_obtainBytes hs) hm
  · exact wrData_of_execStDataAck h hs hm

/-- An interrupt overwrites the data register before anything reads it (R167). -/
theorem step_interrupt_dr {c : BitVec 8} {b : Byte} {tx : List Byte} {rest : List Packet}
    (hin : s.inbox = .interrupt c b tx :: rest) (b' : Byte) : step { s with dr := b' } = step s := by
  simp only [step, hin]
  rfl

/-- Settles O28: only a START dispatch and a dispatch that sends a byte emit `WR_DATA`; the first writes
its address byte, the second the byte at the cursor. -/
theorem writtenBytesAreAddressOrBufferBytes : Obligations.WrittenBytesAreAddressOrBufferBytes := by
  refine ⟨fun _ => rfl, fun s t p rest i b hin hp hd hs hm => ?_,
    fun s c b b' tx rest hin => step_interrupt_dr hin b'⟩
  have hi : (isStart i || sendsByte i) = true := mayEmit_of_step hin hp hd hs hm
  obtain ⟨u, hu, rfl⟩ := exec_of_step hin hd hs
  have hnone : .wrData b ∉ (s.beginStep p rest).out := by simp
  obtain hi | hi := (Bool.or_eq_true ..).mp hi
  · obtain ⟨⟨hdr, hlist⟩, dir, hdir⟩ := wrData_of_isStart hi hu hnone hm
    exact ⟨hdr, hlist, .inl ⟨dir, by simpa using hdir⟩⟩
  · obtain ⟨⟨hdr, hlist⟩, hbyte⟩ := wrData_of_sendsByte hi hu hnone hm
    exact ⟨hdr, hlist, .inr hbyte⟩

end Sys2Proof.Machine
end

section
/-! PROOF. R169: nothing runs without an input, and of the commands only `DISABLE` leaves a non-Idle
role. -/

namespace Sys2Proof.Machine

variable {s : State}

/-- R169: with no input nothing runs, for any number of steps. -/
theorem runSteps_nil (h : s.inbox = []) (n : Nat) : runSteps n s = .next s := by
  induction n with
  | zero => rfl
  | succ n ih => simp only [runSteps, step_nil h, ih]

/-- A command that tests its acceptance condition has a next state either way (R80 (d)). -/
theorem exists_next_of_ite {c : Prop} [Decidable c] {P : State → Prop} {t u : State}
    (ht : c → P t) (hu : ¬ c → P u) :
    ∃ v, (if c then .next t else .next u : Result) = .next v ∧ P v := by
  split <;> rename_i h
  · exact ⟨t, rfl, ht h⟩
  · exact ⟨u, rfl, hu h⟩

theorem role_of_acceptsInit {mode : Mode} {clock cap : Nat}
    (h : s.acceptsInit mode clock cap = true) : s.role = .idle := by
  simp only [State.acceptsInit, Bool.and_eq_true, decide_eq_true_eq] at h
  exact h.1.1

theorem acceptsTransaction_iff :
    s.acceptsTransaction = true ↔ (s.enabled = true ∧ s.mode = .master) ∧ s.role = .idle := by
  simp only [State.acceptsTransaction, Bool.and_eq_true, decide_eq_true_eq]

/-- R80 (d), R28: a command always has a next state, and its role is the one of the role graph. -/
theorem exec_eq_next_of_isCommand {i : Instr} (hi : isCommand i = true) (s : State) :
    ∃ t, exec i s = .next t ∧ t.role = roleAfter i s := by
  cases i with
  | init => exact exists_next_of_ite (fun h => (role_of_acceptsInit h).symm) fun _ => rfl
  | disable => exact ⟨_, rfl, rfl⟩
  | sendTo | readFrom => exact exists_next_of_ite (fun h => (if_pos h).symm) fun h => (if_neg h).symm
  | setRxHandler | setTxProvider => exact exists_next_of_ite (fun _ => rfl) fun _ => rfl
  | _ => cases hi

/-- R169: in the role graph no command but `DISABLE` leads out of a non-Idle role. -/
theorem roleAfter_of_isCommand {i : Instr} (hi : isCommand i = true) (hr : s.role ≠ .idle)
    (hd : i ≠ .disable) : roleAfter i s = s.role := by
  cases i with
  | init | setRxHandler | setTxProvider => rfl
  | disable => exact absurd rfl hd
  | sendTo | readFrom => exact if_neg fun h => hr (acceptsTransaction_iff.mp h).2
  | _ => cases hi

/-- Settles O7: without input every step is the identity; a command's step is its instruction, whose
role is read off the role graph. -/
theorem onlyDisableFreesAStuckTransaction : Obligations.OnlyDisableFreesAStuckTransaction := by
  refine ⟨fun s n h => runSteps_nil h n, fun s cop args rest i hin hd hr => ?_⟩
  have hi := isCommand_of_decoded hd
  obtain ⟨t, ht, hrole⟩ := exec_eq_next_of_isCommand hi (s.beginStep (.command cop args) rest)
  refine ⟨t.endStep, by rw [step_ok hin hd, ht, leave], fun hne => ?_, fun heq => ?_⟩
  · exact hrole.trans (roleAfter_of_isCommand hi hr hne)
  · subst heq
    exact hrole

end Sys2Proof.Machine
end

section
/-! PROOF. R162: the five error dispatches are the shared error exit, which leaves an enabled master
ready for a new transaction. -/

namespace Sys2Proof.Machine

variable {s : State}

/-- R106: `MR.SLA_NACK` is the error exit with `STOP`; without `SYMMETRIC_NACK` it records the error that
is there already. -/
theorem exec_mrSlaNack (s : State) :
    exec .mrSlaNack s = .next (s.takeError (errorAfter .mrSlaNack s) .stop) := by
  simp only [exec, execMrSlaNack, errorAfter]
  split <;> rfl

/-- R160, R162: an error dispatch is the error exit with one control operation. -/
theorem exec_of_errorDispatch {i : Instr} (s : State)
    (hi : i ∈ [.mtSlaNack, .mtDataNack, .mrSlaNack, .anyArbLost, Instr.anyBusError]) :
    ∃ op, exec i s = .next (s.takeError (errorAfter i s) op) ∧ isControl op = true := by
  simp only [List.mem_cons, List.not_mem_nil, or_false] at hi
  obtain rfl | rfl | rfl | rfl | rfl := hi
  · exact ⟨.stop, rfl, rfl⟩
  · exact ⟨.stop, rfl, rfl⟩
  · exact ⟨.stop, exec_mrSlaNack s, rfl⟩
  · exact ⟨.release, rfl, rfl⟩
  · exact ⟨.stop, rfl, rfl⟩

/-- R83: `SEND_TO` when it is accepted. -/
theorem exec_sendTo_of_accepts (h : s.acceptsTransaction = true) (a : BusAddress) (bytes : List Byte)
    (n : Nat) : exec (.sendTo a bytes n) s =
      .next (s.startTransaction .masterTransmit a (Memory.ofBytes (bytes.take n)) n) := if_pos h

/-- R84: `READ_FROM` when it is accepted. -/
theorem exec_readFrom_of_accepts (h : s.acceptsTransaction = true) (a : BusAddress)
    (buffer : List Byte) (n : Nat) : exec (.readFrom a buffer n) s =
      .next (s.startTransaction .masterReceive a (Memory.ofBytes buffer) n) := if_pos h

/-- Settles O31: the dispatch is the error exit, which ends in Idle; an enabled master in Idle accepts
both commands. -/
theorem recordedErrorsAreRecoverable : Obligations.RecordedErrorsAreRecoverable := by
  intro i s hi
  obtain ⟨op, hexec, hop⟩ := exec_of_errorDispatch s hi
  refine ⟨_, op, hexec, rfl, rfl, hop, fun hen hmode a bytes n => ?_⟩
  have hacc := acceptsTransaction_iff.mpr ⟨⟨hen, hmode⟩, rfl⟩
  exact ⟨⟨_, exec_sendTo_of_accepts hacc a bytes n, rfl, rfl⟩,
    ⟨_, exec_readFrom_of_accepts hacc a bytes n, rfl, rfl⟩⟩

end Sys2Proof.Machine
end

section
/-! PROOF. R185, R189: a command that starts something is dropped when its acceptance condition fails, and
in a non-Idle role no such condition holds. -/

namespace Sys2Proof.Machine

variable {s : State}

/-- R81: an `INIT` that is not accepted leaves the state as it was. -/
theorem exec_init_of_not_accepts {mode : Mode} {clock cap : Nat} {own : BusAddress} {pullup : Bool}
    (h : s.acceptsInit mode clock cap = false) : exec (.init mode clock own cap pullup) s = .next s :=
  execInit_eq_next.mpr (.inr ⟨h, rfl⟩)

/-- R83, R84: a `SEND_TO` or `READ_FROM` that is not accepted only answers so. -/
theorem exec_of_not_acceptsTransaction {i : Instr} (hi : startsTransaction i = true)
    (h : ¬ s.acceptsTransaction = true) : exec i s = .next (s.answer false) := by
  obtain ⟨role, address, buffer, length, heq⟩ := exec_of_startsTransaction hi
  exact (heq s).trans (if_neg h)

/-- R189: a busy, a disabled and a slave block accept no transaction. -/
theorem not_acceptsTransaction (h : s.role ≠ .idle ∨ s.enabled = false ∨ s.mode = .slave) :
    ¬ s.acceptsTransaction = true := by
  intro hacc
  obtain ⟨⟨hen, hmode⟩, hrole⟩ := acceptsTransaction_iff.mp hacc
  obtain hbusy | hdis | hslave := h
  · exact hbusy hrole
  · exact Bool.noConfusion (hen.symm.trans hdis)
  · exact Mode.noConfusion (hmode.symm.trans hslave)

/-- Settles O32: an accepted `INIT` finds the block in Idle. -/
theorem initInFlightIsRejected : Obligations.InitInFlightIsRejected :=
  fun _ _ _ _ _ _ hrole =>
    exec_init_of_not_accepts (Bool.eq_false_iff.mpr fun hacc => hrole (role_of_acceptsInit hacc))

/-- Settles O33: in each of the three situations the transaction is not accepted, so either command only
answers so. -/
theorem busyCallsAreDropped : Obligations.BusyCallsAreDropped := by
  intro s a bytes n h
  have hacc : ¬ s.acceptsTransaction = true := not_acceptsTransaction h
  exact ⟨exec_of_not_acceptsTransaction rfl hacc, exec_of_not_acceptsTransaction rfl hacc⟩

end Sys2Proof.Machine
end

section
/-! PROOF. R60 to R70: the decoder on encoded words, against the opcode table, and on the words of
interrupts. -/

namespace Sys2Proof.Machine

variable {s : State}

/-! ### Decoding what was encoded -/

@[simp] theorem ofCode_modeCode (m : Mode) : Mode.ofCode m.code = m := by cases m <;> rfl

/-- R69: `SET_OWN_ADDR` reads the address back from `arg[6:0]`. -/
theorem extractLsb'_setWidth_address (a : BusAddress) : (a.setWidth 8).extractLsb' 0 7 = a := by
  rw [BitVec.extractLsb'_setWidth_of_le (by decide), BitVec.extractLsb'_eq_self]

theorem checkOperands_of_wellFormed {cfg : Config} {i : Instr} (h : wellFormed cfg i = true) :
    checkOperands cfg i = .ok i := by
  rw [checkOperands, if_pos h]

theorem decode_command_eq_ok {cfg : Config} {cop : BitVec 3} {args : CommandArgs} {i : Instr}
    (hc : decodeCommand cop args = some i) (hw : wellFormed cfg i = true) :
    decode cfg (.command cop args) = .ok i := by
  simp only [decode, hc, checkOperands_of_wellFormed hw]

theorem decode_operation_eq_ok {cfg : Config} {bop : BitVec 4} {args : OpArgs} {i : Instr}
    (ho : decodeOperation bop args = some i) (hw : wellFormed cfg i = true) :
    decode cfg (.operation bop args) = .ok i := by
  simp only [decode, ho, checkOperands_of_wellFormed hw]

/-- Settles O1: a dispatch is a closed word of the default table; a command and an operation decode by
their opcode, and their operands are read back one by one. -/
theorem decodeInvertsEncode : Obligations.DecodeInvertsEncode := by
  intro i hw
  cases i with
  | anyBusError | anyArbLost | anyNoInfo | idleSrSlaAck | idleSrGcallAck | idleStSlaAck | mtStart
    | mtRepStart | mtSlaAck | mtSlaNack | mtDataAck | mtDataNack | mrStart | mrRepStart | mrSlaAck
    | mrSlaNack | mrDataAck | mrDataNack | srDataAck | srDataNack | srGcallDataAck | srGcallDataNack
    | srStop | stDataAck | stDataNack | stLastData => decide
  | init mode clock own cap pullup =>
    exact decode_command_eq_ok (by simp [decodeCommand]) hw
  | disable | sendTo | readFrom | setRxHandler | setTxProvider => exact decode_command_eq_ok rfl hw
  | opSetOwnAddr a =>
    refine decode_operation_eq_ok ?_ hw
    exact congrArg (fun a => some (Instr.opSetOwnAddr a)) (extractLsb'_setWidth_address a)
  | opNone | opStart | opStop | opNextAck | opNextNack | opRelease | opWrData | opRdData | opEnable
    | opDisableBc | opSetClockDiv | opCallRx | opCallTx => exact decode_operation_eq_ok rfl hw

/-- Settles O3: each word is a row of the opcode table with the operands written beside it. -/
theorem sampleWordsDecode : Obligations.SampleWordsDecode :=
  ⟨rfl, rfl, rfl, rfl, rfl, rfl, rfl, rfl⟩

/-! ### The opcode table -/

/-- The mnemonic of a command does not depend on its operands. -/
theorem mnemonic_decodeCommand (cop : BitVec 3) (args : CommandArgs) :
    (decodeCommand cop args).map Instr.mnemonic = (decodeCommand cop {}).map Instr.mnemonic := by
  simp only [decodeCommand, apply_ite (Option.map Instr.mnemonic)]
  rfl

/-- The mnemonic of an operation does not depend on its operands. -/
theorem mnemonic_decodeOperation (bop : BitVec 4) (args : OpArgs) :
    (decodeOperation bop args).map Instr.mnemonic = (decodeOperation bop {}).map Instr.mnemonic := by
  simp only [decodeOperation, apply_ite (Option.map Instr.mnemonic)]
  rfl

/-- R62: a status code is listed in a table, or it is `UNASSIGNED`. -/
theorem mem_or_statusDecode_eq_unassigned (table : List (BitVec 8 × StatusClass)) (c : BitVec 8) :
    c ∈ table.map (·.1) ∨ statusDecode table c = .unassigned := by
  induction table with
  | nil => exact .inr rfl
  | cons entry rest ih =>
    by_cases h : entry.1 = c
    · exact .inl (by simp [h])
    · simpa [statusDecode, h, Ne.symm h] using ih

/-- R65: an `UNASSIGNED` code has no handler, under any role bits. -/
theorem decodeDispatch_of_unassigned {table : List (BitVec 8 × StatusClass)} {d : BitVec 11}
    (h : statusDecode table (dispatchStatus d) = .unassigned) : decodeDispatch table d = none := by
  simp only [decodeDispatch, h, dispatchAny]
  cases Role.ofCode (dispatchRoleCode d) with
  | none => rfl
  | some r => cases r <;> rfl

/-- R64: a dispatch word is its role bits in front of its status code. -/
theorem dispatchWord_eta (d : BitVec 11) : dispatchWord (dispatchRoleCode d) (dispatchStatus d) = d := by
  unfold dispatchWord dispatchRoleCode dispatchStatus
  exact BitVec.extractLsb'_append_extractLsb'_eq_extractLsb' rfl |>.trans BitVec.extractLsb'_eq_self

/-- Every row of a word's format fixes the status bits, to a code that the default table lists. -/
theorem dispatchRows_status : ∀ row ∈ dispatchRows,
    row.mask % 256 = 255 ∧ BitVec.ofNat 8 row.pattern ∈ standardStatusTable.map (·.1) := by decide

/-- A word with an unlisted status code matches no row. -/
theorem matchingRows_of_unlisted {d : BitVec 11}
    (h : dispatchStatus d ∉ standardStatusTable.map (·.1)) : matchingRows dispatchRows d.toNat = [] := by
  rw [matchingRows, List.map_eq_nil_iff, List.filter_eq_nil_iff]
  intro row hrow hacc
  obtain ⟨hmask, hcode⟩ := dispatchRows_status row hrow
  have hpat : d.toNat &&& row.mask = row.pattern := eq_of_beq hacc
  have hlow : (d.toNat &&& row.mask) % 2 ^ 8 = d.toNat % 2 ^ 8 := by
    rw [Nat.and_mod_two_pow, show row.mask % 2 ^ 8 = 2 ^ 8 - 1 from hmask,
      Nat.and_two_pow_sub_one_eq_mod, Nat.mod_mod]
  have hstatus : dispatchStatus d = BitVec.ofNat 8 row.pattern := by
    apply BitVec.eq_of_toNat_eq
    rw [BitVec.toNat_ofNat, ← hpat, hlow]
    simp [dispatchStatus]
  exact h (hstatus ▸ hcode)

/-- On the words of the default table's codes decoder and rows agree. -/
theorem listed_words_decode : ∀ c ∈ standardStatusTable.map (·.1), ∀ r : BitVec 3,
    ((decodeDispatch standardStatusTable (dispatchWord r c)).map Instr.mnemonic).toList =
      matchingRows dispatchRows (dispatchWord r c).toNat := by
  decide

/-- Settles O2: a dispatch word's status code is listed, and then decoder and rows are compared code by
code, or it is not, and then there is neither a handler nor a row; a command and an operation are their
opcode alone. -/
theorem decoderReadsTheOpcodeTable : Obligations.DecoderReadsTheOpcodeTable := by
  refine ⟨fun d => ?_, fun cop args => ?_, fun bop args => ?_⟩
  · by_cases hc : dispatchStatus d ∈ standardStatusTable.map (·.1)
    · have h := listed_words_decode _ hc (dispatchRoleCode d)
      rwa [dispatchWord_eta] at h
    · have hnone : decodeDispatch standardStatusTable d = none :=
        decodeDispatch_of_unassigned ((mem_or_statusDecode_eq_unassigned _ _).resolve_left hc)
      rw [matchingRows_of_unlisted hc, hnone]
      rfl
  · rw [mnemonic_decodeCommand]
    revert cop
    decide
  · rw [mnemonic_decodeOperation]
    revert bop
    decide

/-! ### The handler of an interrupt -/

/-- R64: what an interrupt decodes to. -/
theorem decoded_interrupt (s : State) (c : BitVec 8) (b : Byte) (tx : List Byte)
    (rest : List Packet) :
    decoded s (.interrupt c b tx) rest = decode s.config (.dispatch (dispatchWord s.role.code c)) :=
  rfl

/-- Settles O4: the word's parts are the role and the status code, and the word and the parameters are
all that the decoder is given. -/
theorem handlerDependsOnRoleAndStatusOnly : Obligations.HandlerDependsOnRoleAndStatusOnly := by
  refine ⟨fun r c => ⟨dispatchRoleCode_dispatchWord r c, dispatchStatus_dispatchWord r c⟩, ?_⟩
  intro s t c b b' tx tx' rest rest' hrole hconfig
  rw [decoded_interrupt, decoded_interrupt, hrole, hconfig]

/-- R65: a role's word selects the common handler of its class, or else the role's own. -/
theorem decodeDispatch_dispatchWord (table : List (BitVec 8 × StatusClass)) (r : Role) (c : BitVec 8) :
    decodeDispatch table (dispatchWord r.code c) =
      (dispatchAny (statusDecode table c)).or (dispatchRole r (statusDecode table c)) := by
  simp only [decodeDispatch, dispatchStatus_dispatchWord, dispatchRoleCode_dispatchWord, ofCode_code]
  cases dispatchAny (statusDecode table c) <;> rfl

/-- R133: the classes with a handler are the expected ones of the role. -/
theorem isSome_handler_iff (r : Role) (cls : StatusClass) :
    ((dispatchAny cls).or (dispatchRole r cls)).isSome = true ↔ cls ∈ expectedClasses r := by
  cases r <;> cases cls <;> decide

/-- Settles O5: the handler is chosen by the class alone, and the classes are compared one by one. -/
theorem definedDispatchesAreTheExpectedOnes : Obligations.DefinedDispatchesAreTheExpectedOnes := by
  intro table r c
  rw [decodeDispatch_dispatchWord]
  exact isSome_handler_iff r _

end Sys2Proof.Machine
end

section
/-! SUPPORT. One equation for each branch of the shared operations and of the commands: the next state
written out, field by field. -/

namespace Sys2Proof.Machine

variable {s : State}

/-! ### Two operations in a row -/

theorem emit_emit (a b : Op) (s : State) :
    (s.emit a).emit b = { s with out := s.out ++ [a, b] } := by
  simp [State.emit]

/-- A byte and its reply (R147). -/
theorem writeData_emit (b : Byte) (op : Op) (s : State) :
    (s.writeData b).emit op = { s with dr := b, out := s.out ++ [.wrData b, op] } := by
  simp [State.emit, State.writeData]

theorem emit_terminate (op : Op) (s : State) :
    (s.emit op).terminate = { s with role := .idle, out := s.out ++ [op] } := rfl

theorem sendAddress_eq (dir : BitVec 1) (s : State) :
    s.sendAddress dir = { s with
      dr := addressByte s.peerAddress dir
      out := s.out ++ [.wrData (addressByte s.peerAddress dir), .nextAck] } :=
  writeData_emit ..

/-! ### Commands -/

/-- R81: an accepted `INIT`. -/
theorem exec_init_of_accepts {mode : Mode} {clock cap : Nat} {own : BusAddress} {pullup : Bool}
    (h : s.acceptsInit mode clock cap = true) :
    exec (.init mode clock own cap pullup) s = .next { s.configure mode clock own cap pullup with
      out := s.out ++ [configOp mode clock own, .enable] } :=
  (execInit_eq_next.mpr (.inl ⟨h, rfl⟩)).trans (congrArg _ (emit_emit ..))

/-- R81, decision D20: when `INIT` is accepted. -/
theorem acceptsInit_iff {mode : Mode} {clock cap : Nat} :
    s.acceptsInit mode clock cap = true ↔
      (s.role = .idle ∧ cap ≤ s.config.rxCapMax) ∧ (mode = .slave ∨ clock ≤ s.config.clockMaxHz) := by
  simp [State.acceptsInit]

theorem acceptsRegistration_iff : s.acceptsRegistration = true ↔ s.mode = .slave := by
  simp [State.acceptsRegistration]

/-- R85, R86: the registrations of a block in Slave mode. -/
theorem exec_registrations_of_slave (h : s.mode = .slave) (f q : CallbackId) (m : Nat) :
    exec (.setRxHandler f) s = .next { s with rxHandler := some f } ∧
    exec (.setTxProvider q m) s = .next { s with txProvider := some q, maxTxLength := m } :=
  ⟨if_pos (acceptsRegistration_iff.mpr h), if_pos (acceptsRegistration_iff.mpr h)⟩

/-- R85, R86: the registrations of a block in Master mode. -/
theorem exec_registrations_of_master (h : s.mode = .master) (f q : CallbackId) (m : Nat) :
    exec (.setRxHandler f) s = .next s ∧ exec (.setTxProvider q m) s = .next s := by
  have hrej : ¬ s.acceptsRegistration = true := by simp [acceptsRegistration_iff, h]
  exact ⟨if_neg hrej, if_neg hrej⟩

/-! ### Master-send -/

/-- R92, R93: both dispatches are the byte-acknowledged event. -/
theorem exec_of_transmitAck {i : Instr} (hi : i = .mtSlaAck ∨ i = .mtDataAck) :
    exec i s = s.sendNext := by
  obtain rfl | rfl := hi <;> rfl

theorem sendNext_of_byte {b : Byte} (hlt : s.cursor < s.length) (hb : s.mb.read s.cursor = some b) :
    s.sendNext = .next { s with
      cursor := s.cursor + 1, dr := b, out := s.out ++ [.wrData b, .nextAck] } :=
  sendNext_eq_next.mpr (.inl ⟨hlt, b, hb, (writeData_emit b .nextAck s.advance).symm⟩)

theorem sendNext_of_length_le (h : s.length ≤ s.cursor) :
    s.sendNext = .next { s with role := .idle, out := s.out ++ [.stop] } :=
  sendNext_eq_next.mpr (.inr ⟨h.not_gt, rfl⟩)

/-! ### Master-receive -/

/-- R102: more than one byte remains. -/
theorem reply_of_more (h : s.cursor + 1 < s.length) : s.reply = s.emit .nextAck :=
  if_pos (by omega)

/-- R102: exactly one byte remains. -/
theorem reply_of_one (h : s.cursor + 1 = s.length) : s.reply = s.emit .nextNack :=
  (if_neg (by omega)).trans (if_pos (by omega))

/-- R102, decision D11: no byte remains. -/
theorem reply_of_none (h : s.length ≤ s.cursor) : s.reply = (s.emit .stop).terminate :=
  (if_neg (by omega)).trans (if_neg (by omega))

theorem receive_of_room (h : s.cursor < s.length) :
    s.receive = { s with
      mb := s.mb.write s.cursor s.dr, cursor := s.cursor + 1, out := s.out ++ [.rdData] } :=
  if_pos h

theorem receive_of_length_le (h : s.length ≤ s.cursor) :
    s.receive = { s with out := s.out ++ [.rdData] } :=
  if_neg h.not_gt

/-! ### Slave-receive -/

/-- R113 to R116: all four data dispatches are `sr_data()`. -/
theorem exec_of_storesRxb {i : Instr} (hi : storesRxb i = true) :
    exec i s = .next s.receiveSlave := by
  simp only [storesRxb, List.mem_cons, List.not_mem_nil, or_false, decide_eq_true_eq] at hi
  obtain rfl | rfl | rfl | rfl := hi <;> rfl

theorem receiveSlave_of_room (h : s.cursor < s.rxCapacity) :
    s.receiveSlave = { s with
      rxb := s.rxb.write s.cursor s.dr, cursor := s.cursor + 1
      out := s.out ++ [.rdData, .nextAck] } :=
  (if_pos h).trans (emit_emit .rdData .nextAck
    { s with rxb := s.rxb.write s.cursor s.dr, cursor := s.cursor + 1 })

theorem receiveSlave_of_full (h : s.rxCapacity ≤ s.cursor) :
    s.receiveSlave = { s with out := s.out ++ [.rdData, .nextNack] } :=
  (if_neg h.not_gt).trans (emit_emit ..)

theorem exec_srStop_of_handler {f : CallbackId} {bytes : List Byte}
    (hf : s.rxHandlerActive = some f) (hb : s.rxb.bytes s.cursor = some bytes) :
    exec .srStop s = .next { s with
      role := .idle, out := s.out ++ [.callRx f bytes s.cursor, .nextAck] } := by
  simp only [exec, execSrStop, hf, hb, State.callHandler, emit_emit, State.terminate]

theorem exec_srStop_of_no_handler (hf : s.rxHandlerActive = none) :
    exec .srStop s = .next { s with role := .idle, out := s.out ++ [.nextAck] } := by
  simp only [exec, execSrStop, hf, emit_terminate]

/-! ### Slave-transmit -/

/-- R120: a byte is sent, with the acknowledge expected while more remain after it. -/
theorem sendSlave_of_byte {b : Byte} (hlt : s.cursor < s.length) (hb : s.txb.read s.cursor = some b) :
    s.sendSlave = .next { s with
      cursor := s.cursor + 1, dr := b
      out := s.out ++ [.wrData b, if s.cursor + 1 < s.length then .nextAck else .nextNack] } :=
  sendSlave_eq_next.mpr (.inl ⟨hlt, b, hb, (writeData_emit b _ s.advance).symm⟩)

theorem sendSlave_of_length_le (h : s.length ≤ s.cursor) : s.sendSlave = .next (s.emit .nextNack) :=
  sendSlave_eq_next.mpr (.inr ⟨h.not_gt, rfl⟩)

theorem obtainBytes_of_provider {p : CallbackId} (h : s.txProvider = some p) :
    s.obtainBytes = { s with
      txb := Memory.ofBytes s.txAnswer, length := min s.txAnswer.length s.maxTxLength
      out := s.out ++ [.callTx p] } := by
  obtain ⟨q, hq, heq⟩ | ⟨hnone, -⟩ := obtainBytes_cases s
  · cases h.symm.trans hq
    exact heq
  · cases h.symm.trans hnone

theorem obtainBytes_of_no_provider (h : s.txProvider = none) :
    s.obtainBytes = { s with txb := [], length := 0 } := by
  simp only [State.obtainBytes, h]

/-- R121: what the trigger of slave-transmit sets before it asks the provider. -/
def State.triggerTransmit (s : State) : State :=
  { s with role := .slaveTransmit, lastError := .ok, cursor := 0 }

theorem exec_idleStSlaAck (s : State) :
    exec .idleStSlaAck s = s.triggerTransmit.obtainBytes.sendSlave := rfl

theorem exec_stDataAck_of_lt (h : s.cursor < s.length) : exec .stDataAck s = s.sendSlave := if_pos h

theorem exec_stDataAck_of_length_le (h : s.length ≤ s.cursor) :
    exec .stDataAck s = .next { s with role := .idle, out := s.out ++ [.nextAck] } := if_neg h.not_gt

end Sys2Proof.Machine
end

section
/-! PROOF. What each command does (R81 to R86), and the state after reset (R30). -/

namespace Sys2Proof.Machine

/-- Settles O34: the operands in range are accepted, and the state is configured; one out of range fails
the acceptance condition. -/
theorem initConfigures : Obligations.InitConfigures := by
  refine ⟨fun s clock own cap pullup hrole hcap => ?_, fun s clock own cap pullup hrole hcap hclock => ?_,
    fun s mode clock own cap pullup hout => ?_⟩
  · rw [exec_init_of_accepts (acceptsInit_iff.mpr ⟨⟨hrole, hcap⟩, .inl rfl⟩), State.configure, ← hrole]
    rfl
  · rw [exec_init_of_accepts (acceptsInit_iff.mpr ⟨⟨hrole, hcap⟩, .inr hclock⟩), State.configure, ← hrole]
    rfl
  · refine exec_init_of_not_accepts (Bool.eq_false_iff.mpr fun hacc => ?_)
    obtain ⟨⟨-, hcap⟩, hmode⟩ := acceptsInit_iff.mp hacc
    obtain hlt | ⟨rfl, hlt⟩ := hout
    · exact hlt.not_ge hcap
    · exact hlt.not_ge (hmode.resolve_left nofun)

/-- Settles O35: the command is its three writes. -/
theorem disableAbandonsTheTransaction : Obligations.DisableAbandonsTheTransaction := fun _ => rfl

/-- Settles O36: an enabled master in Idle accepts, and starts the transaction. -/
theorem sendToStartsATransaction : Obligations.SendToStartsATransaction :=
  fun _ a data n hen hmode hrole =>
    exec_sendTo_of_accepts (acceptsTransaction_iff.mpr ⟨⟨hen, hmode⟩, hrole⟩) a data n

/-- Settles O37: an enabled master in Idle accepts, and starts the transaction. -/
theorem readFromStartsATransaction : Obligations.ReadFromStartsATransaction :=
  fun _ a buffer n hen hmode hrole =>
    exec_readFrom_of_accepts (acceptsTransaction_iff.mpr ⟨⟨hen, hmode⟩, hrole⟩) a buffer n

/-- Settles O38: the mode alone is the acceptance condition. -/
theorem registrationsReplaceInSlaveMode : Obligations.RegistrationsReplaceInSlaveMode :=
  fun _ h q m => ⟨fun hs => exec_registrations_of_slave hs h q m,
    fun hm => exec_registrations_of_master hm h q m⟩

/-- Settles O56: the fields of the reset state, one by one. -/
theorem resetState : Obligations.ResetState := by
  unfold Obligations.ResetState
  decide

/-- Settles O11: every count is 0, every store empty, and the role selects none. -/
theorem resetMeetsInvariant : Obligations.ResetMeetsInvariant := by
  have hreset (cfg : Config) (h : cfg.rxCapMax ≤ cfg.cntMax) :
      ({ State.reset with config := cfg } : State).Inv :=
    { caps := h
      cursor_le := le_rfl
      length_le := Nat.zero_le _
      capacity_le := Nat.zero_le _
      maxTx_le := Nat.zero_le _
      clock_le := fun _ => Nat.zero_le _
      mb_wf := .nil
      rxb_wf := .nil
      txb_wf := .nil
      mb_covers := nofun
      rx_length := nofun
      rxb_covers := nofun
      txb_covers := nofun }
  exact ⟨hreset Config.standard (by decide), hreset⟩

end Sys2Proof.Machine
end

section
/-! PROOF. What each dispatch does (R90 to R132), and the operations presented by themselves (R141 to
R154). -/

namespace Sys2Proof.Machine

/-- Settles O40: a START dispatch is `sendAddress` with its role's direction. -/
theorem startDispatchesSendTheAddress : Obligations.StartDispatchesSendTheAddress := by
  refine fun s => ⟨fun i hi => ?_, fun i hi => ?_⟩
  · rw [exec_of_transmitStart hi, sendAddress_eq, writeDir]
  · rw [exec_of_receiveStart hi, sendAddress_eq, readDir]

/-- Settles O41: both dispatches are the byte-acknowledged event. -/
theorem masterSendGoesOnWhileBytesRemain : Obligations.MasterSendGoesOnWhileBytesRemain :=
  fun _ _ hi => ⟨fun _ hlt hb => (exec_of_transmitAck hi).trans (sendNext_of_byte hlt hb),
    fun hle => (exec_of_transmitAck hi).trans (sendNext_of_length_le hle)⟩

/-- Settles O43: the dispatch is the look-ahead policy alone. -/
theorem masterReceiveLooksAhead : Obligations.MasterReceiveLooksAhead :=
  fun _ => ⟨fun h => congrArg _ (reply_of_more h), fun h => congrArg _ (reply_of_one h),
    fun h => congrArg _ (reply_of_none h)⟩

/-- R104: the dispatch receives, and then looks ahead. -/
theorem exec_mrDataAck (s : State) : exec .mrDataAck s = .next s.receive.reply := rfl

/-- R105: the dispatch receives, and then stops. -/
theorem exec_mrDataNack (s : State) :
    exec .mrDataNack s = .next (s.receive.emit .stop).terminate := rfl

/-- Settles O44: the policy is applied to the cursor that the store has moved. -/
theorem masterReceiveStoresAndLooksAhead : Obligations.MasterReceiveStoresAndLooksAhead := by
  refine fun s => ⟨fun h => ?_, fun h => ?_, fun h => ?_, fun h => ?_⟩ <;> rw [exec_mrDataAck]
  · rw [receive_of_room (by omega), reply_of_more h]
    simp [State.emit]
  · rw [receive_of_room (by omega), reply_of_one h]
    simp [State.emit]
  · rw [receive_of_room (by omega), reply_of_none h.ge]
    simp [emit_terminate]
  · rw [receive_of_length_le h, reply_of_none (by exact h)]
    simp [emit_terminate]

/-- Settles O45: the byte is received as by `MR.DATA_ACK`, and the reply is always `STOP`. -/
theorem masterReceiveFinalByteEnds : Obligations.MasterReceiveFinalByteEnds := by
  refine fun s => ⟨fun h => ?_, fun h => ?_⟩ <;> rw [exec_mrDataNack]
  · simp [receive_of_room h, emit_terminate]
  · simp [receive_of_length_le h, emit_terminate]

/-- Settles O46: the dispatch is the error exit, which records the error that `errorAfter` gives. -/
theorem masterReceiveNotAcknowledgedEnds : Obligations.MasterReceiveNotAcknowledgedEnds := by
  refine fun s => ⟨fun h => ?_, fun h => ?_⟩ <;> rw [exec_mrSlaNack, takeError_eq] <;>
    simp [errorAfter, h]

/-- Settles O47: both triggers are `triggerReceive`. -/
theorem slaveReceiveTriggersStart : Obligations.SlaveReceiveTriggersStart := by
  rintro s i (rfl | rfl) <;> rfl

/-- Settles O48: all four dispatches are `sr_data()`. -/
theorem slaveReceiveStoresUpToCapacity : Obligations.SlaveReceiveStoresUpToCapacity :=
  fun _ _ hi => ⟨fun h => (exec_of_storesRxb hi).trans (congrArg _ (receiveSlave_of_room h)),
    fun h => (exec_of_storesRxb hi).trans (congrArg _ (receiveSlave_of_full h))⟩

/-- Settles O49: the stored bytes are as many as the cursor says. -/
theorem slaveReceiveStopCallsTheHandler : Obligations.SlaveReceiveStopCallsTheHandler :=
  fun _ => ⟨fun _ _ hf hb => ⟨Memory.length_bytes hb, exec_srStop_of_handler hf hb⟩,
    exec_srStop_of_no_handler⟩

/-- Settles O50: the provider's answer sets TXB and the length, and the send step finds a first byte
there or nothing to send. -/
theorem slaveTransmitTriggerSendsTheFirstByte : Obligations.SlaveTransmitTriggerSendsTheFirstByte := by
  refine fun s => ⟨fun p b rest hp hans hmax => ?_, fun p hp hempty => ?_, fun hp => ?_⟩ <;>
    rw [exec_idleStSlaAck]
  · rw [obtainBytes_of_provider (s := s.triggerTransmit) hp, sendSlave_of_byte (b := b)]
    · simp [State.triggerTransmit]
    · simp [State.triggerTransmit, hans, hmax]
    · simp [State.triggerTransmit, hans]
  · have hlen : min s.txAnswer.length s.maxTxLength = 0 := by
      obtain h | h := hempty <;> simp [h]
    rw [obtainBytes_of_provider (s := s.triggerTransmit) hp, sendSlave_of_length_le hlen.le]
    simp [State.triggerTransmit, State.emit, hlen]
  · rw [obtainBytes_of_no_provider (s := s.triggerTransmit) hp, sendSlave_of_length_le le_rfl]
    rfl

/-- Settles O51: below the length the dispatch is the send step, and else the re-arm. -/
theorem slaveTransmitGoesOnWhileBytesRemain : Obligations.SlaveTransmitGoesOnWhileBytesRemain := by
  refine fun s => ⟨fun b h hb => ?_, fun b h hb => ?_, exec_stDataAck_of_length_le⟩
  · rw [exec_stDataAck_of_lt (by omega), sendSlave_of_byte (by omega) hb, if_pos h]
  · rw [exec_stDataAck_of_lt (by omega), sendSlave_of_byte (by omega) hb, if_neg (by omega)]

/-- Settles O52: both dispatches are the re-arm. -/
theorem slaveTransmitEndsWithoutError : Obligations.SlaveTransmitEndsWithoutError := by
  rintro s i (rfl | rfl) <;> rfl

/-- Settles O54: the dispatches are the terminal edge and the error exit; their codes have common
handlers, so the role bits do not matter. -/
theorem noInfoAndArbitrationLossReturnToIdle : Obligations.NoInfoAndArbitrationLossReturnToIdle :=
  ⟨fun _ => rfl, fun _ => rfl, fun r =>
    ⟨decode_dispatchWord_of_dispatchAny (i := .anyNoInfo) (by decide) r,
      decode_dispatchWord_of_dispatchAny (i := .anyArbLost) (by decide) r⟩⟩

/-- Settles O55: the operations without operands are the members of the list, one by one; each of the
others is the one operation the model says. -/
theorem encoderOperationsJoinTheOutputList : Obligations.EncoderOperationsJoinTheOutputList := by
  refine fun s => ⟨fun i op hmem => ?_, rfl, fun _ => rfl, fun _ => rfl, fun _ => rfl,
    fun _ _ _ => rfl, fun _ => rfl⟩
  simp only [List.mem_cons, List.not_mem_nil, or_false, Prod.mk.injEq] at hmem
  obtain ⟨rfl, rfl⟩ | ⟨rfl, rfl⟩ | ⟨rfl, rfl⟩ | ⟨rfl, rfl⟩ | ⟨rfl, rfl⟩ | ⟨rfl, rfl⟩ | ⟨rfl, rfl⟩ |
    ⟨rfl, rfl⟩ := hmem <;> rfl

/-- R69: no operation of a list has the code of `NONE`. -/
theorem encode_ne_none (op : Op) : op.encode.1 ≠ 0 := by
  cases op <;> simp [Op.encode]

/-- Settles O30: the codes of a list's operations start at 1; both instructions emit nothing. -/
theorem noneIsNeverEmitted : Obligations.NoneIsNeverEmitted :=
  ⟨rfl, encode_ne_none, fun _ => rfl, fun _ => ⟨_, rfl, rfl⟩⟩

end Sys2Proof.Machine
end

section
/-! SUPPORT. R29: everything an instruction writes, as one equation.  What is said elsewhere (the role, the
output list, the data register, and the values a command gives the fields it writes) is left as the next
state has it. -/

namespace Sys2Proof.Machine

variable {s t : State}

/-- R25, decision D17: the active handler after an instruction. -/
def activeAfter (i : Instr) (s : State) : Option CallbackId :=
  if i = .idleSrSlaAck ∨ i = .idleSrGcallAck then s.rxHandler else s.rxHandlerActive

/-- R48, R104, R105: MB after an instruction that starts no transaction. -/
def mbAfter (i : Instr) (s : State) : Memory :=
  if storesMb i then (if s.cursor < s.length then s.mb.write s.cursor s.dr else s.mb) else s.mb

/-- R48, R112: RXB after an instruction. -/
def rxbAfter (i : Instr) (s : State) : Memory :=
  if storesRxb i then (if s.cursor < s.rxCapacity then s.rxb.write s.cursor s.dr else s.rxb) else s.rxb

/-- R43, R121: TXB after an instruction. -/
def txbAfter (i : Instr) (s : State) : Memory :=
  if i = .idleStSlaAck then (if s.txProvider.isSome then Memory.ofBytes s.txAnswer else []) else s.txb

/-- R29: `s` with the fields that the instruction can write.  Context and stores are as the instruction
makes them, every field that only some commands write is kept by the others, and the rest is as in `t`. -/
def State.after (i : Instr) (s t : State) : State :=
  { s with
    role := t.role, dr := t.dr, out := t.out
    cursor := cursorAfter i s, length := lengthAfter i s, lastError := errorAfter i s
    rxHandlerActive := activeAfter i s, rxb := rxbAfter i s, txb := txbAfter i s
    mb := if startsTransaction i then t.mb else mbAfter i s
    peerAddress := if startsTransaction i then t.peerAddress else s.peerAddress
    accepted := if startsTransaction i then t.accepted else s.accepted
    mode := if isInit i then t.mode else s.mode
    ownAddress := if isInit i then t.ownAddress else s.ownAddress
    rxCapacity := if isInit i then t.rxCapacity else s.rxCapacity
    clockSpeedHz := if isInit i then t.clockSpeedHz else s.clockSpeedHz
    pullupEnabled := if isInit i then t.pullupEnabled else s.pullupEnabled
    enabled := if isInit i then t.enabled else if i = .disable then t.enabled else s.enabled
    rxHandler := if isSetRx i then t.rxHandler else s.rxHandler
    txProvider := if isSetTx i then t.txProvider else s.txProvider
    maxTxLength := if isSetTx i then t.maxTxLength else s.maxTxLength }

/-- R102: the look-ahead policy writes the role and the output list only. -/
theorem reply_eq (s : State) : s.reply = { s with role := s.reply.role, out := s.reply.out } := by
  obtain ⟨-, heq⟩ | ⟨-, heq⟩ | ⟨-, heq⟩ := reply_cases s <;> rw [heq] <;> rfl

/-- R104, R105: the master-receive dispatches that store, whatever reply follows. -/
theorem receive_eq_after {i : Instr} (hi : i = .mrDataAck ∨ i = .mrDataNack) (r : Role)
    (out : List Op) :
    { s.receive with role := r, out := out } =
      s.after i { s.receive with role := r, out := out } := by
  by_cases hlt : s.cursor < s.length
  · obtain rfl | rfl := hi <;>
      simp only [receive_of_room hlt, State.after, cursorAfter, mbAfter, if_pos hlt] <;> rfl
  · obtain rfl | rfl := hi <;>
      simp only [receive_of_length_le (not_lt.mp hlt), State.after, cursorAfter, mbAfter,
        if_neg hlt] <;> rfl

/-- R112: the slave-receive dispatches that store. -/
theorem receiveSlave_eq_after {i : Instr} (hi : storesRxb i = true) :
    s.receiveSlave = s.after i s.receiveSlave := by
  simp only [storesRxb, List.mem_cons, List.not_mem_nil, or_false, decide_eq_true_eq] at hi
  by_cases hlt : s.cursor < s.rxCapacity
  · obtain rfl | rfl | rfl | rfl := hi <;>
      simp only [receiveSlave_of_room hlt, State.after, cursorAfter, rxbAfter, if_pos hlt] <;> rfl
  · obtain rfl | rfl | rfl | rfl := hi <;>
      simp only [receiveSlave_of_full (not_lt.mp hlt), State.after, cursorAfter, rxbAfter,
        if_neg hlt] <;> rfl

theorem execStDataAck_eq_after (h : execStDataAck s = .next t) :
    t = s.after .stDataAck t := by
  unfold execStDataAck at h
  split at h
  case isTrue hlt =>
    obtain ⟨-, b, -, rfl⟩ | ⟨hge, -⟩ := sendSlave_eq_next.mp h
    · simp only [State.after, cursorAfter, if_pos hlt]
      rfl
    · exact absurd hlt hge
  case isFalse hge =>
    cases h
    simp only [State.after, cursorAfter, if_neg hge]
    rfl

/-- R117: `SR.STOP`, with or without a handler, writes the role and the output list. -/
theorem execSrStop_eq_next (h : execSrStop s = .next t) :
    ∃ ops, t = { s with role := .idle, out := ops } := by
  unfold execSrStop at h
  split at h
  · cases h
    exact ⟨_, rfl⟩
  · split at h <;> cases h
    exact ⟨_, rfl⟩

/-- R121: the trigger's cursor is 0 until the send step finds a byte. -/
theorem execIdleStSlaAck_eq_after (h : execIdleStSlaAck s = .next t) :
    t = s.after .idleStSlaAck t := by
  change s.triggerTransmit.obtainBytes.sendSlave = _ at h
  cases hp : s.txProvider with
  | none =>
    have hcursor : cursorAfter .idleStSlaAck s = 0 := by simp [cursorAfter, hp]
    have hlength : lengthAfter .idleStSlaAck s = 0 := by simp [lengthAfter, hp]
    have htxb : txbAfter .idleStSlaAck s = [] := by simp [txbAfter, hp]
    rw [obtainBytes_of_no_provider (s := s.triggerTransmit) hp, sendSlave_of_length_le le_rfl] at h
    cases h
    simp only [State.after, hcursor, hlength, htxb]
    rfl
  | some p =>
    have hlength : lengthAfter .idleStSlaAck s = min s.txAnswer.length s.maxTxLength := by
      simp only [lengthAfter, hp, Option.isSome_some, if_true]
    have htxb : txbAfter .idleStSlaAck s = Memory.ofBytes s.txAnswer := by simp [txbAfter, hp]
    rw [obtainBytes_of_provider (s := s.triggerTransmit) hp] at h
    obtain ⟨hlt, b, -, rfl⟩ | ⟨hge, rfl⟩ := sendSlave_eq_next.mp h
    · have hpos : 0 < min s.txAnswer.length s.maxTxLength := hlt
      have hcursor : cursorAfter .idleStSlaAck s = 1 := by simp only [cursorAfter, hp, hpos]; rfl
      simp only [State.after, hcursor, hlength, htxb]
      rfl
    · have hnone : ¬ 0 < min s.txAnswer.length s.maxTxLength := hge
      have hcursor : cursorAfter .idleStSlaAck s = 0 := by simp only [cursorAfter, hp, hnone]; rfl
      simp only [State.after, hcursor, hlength, htxb]
      rfl

/-- R83, R84: a transaction started sets up the context, one that is dropped leaves it. -/
theorem startsTransaction_eq_after {i : Instr} (hi : startsTransaction i = true)
    (h : exec i s = .next t) : t = s.after i t := by
  cases hacc : s.acceptsTransaction with
  | true =>
    cases i with
    | sendTo address data n =>
      cases (exec_sendTo_of_accepts hacc address data n).symm.trans h
      simp only [State.after, cursorAfter, lengthAfter, errorAfter, if_pos hacc]
      rfl
    | readFrom address buffer n =>
      cases (exec_readFrom_of_accepts hacc address buffer n).symm.trans h
      simp only [State.after, cursorAfter, lengthAfter, errorAfter, if_pos hacc]
      rfl
    | _ => cases hi
  | false =>
    have hrej : ¬ s.acceptsTransaction = true := by simp [hacc]
    cases (exec_of_not_acceptsTransaction hi hrej).symm.trans h
    cases i with
    | sendTo | readFrom =>
      simp only [State.after, cursorAfter, lengthAfter, errorAfter, if_neg hrej]
      rfl
    | _ => cases hi

theorem execInit_eq_after {mode : Mode} {clock cap : Nat} {own : BusAddress} {pullup : Bool}
    (h : execInit mode clock own cap pullup s = .next t) :
    t = s.after (.init mode clock own cap pullup) t := by
  obtain ⟨hacc, rfl⟩ | ⟨hrej, rfl⟩ := execInit_eq_next.mp h
  · simp only [State.after, cursorAfter, lengthAfter, errorAfter, if_pos hacc]
    rfl
  · simp only [State.after, cursorAfter, lengthAfter, errorAfter, if_neg (Bool.not_eq_true _ ▸ hrej)]
    rfl

/-- R29: what an instruction writes. -/
theorem exec_eq_after {i : Instr} (h : exec i s = .next t) : t = s.after i t := by
  cases i with
  | mtSlaAck | mtDataAck =>
    obtain ⟨hlt, b, -, rfl⟩ | ⟨hge, rfl⟩ := sendNext_eq_next.mp h
    · simp only [State.after, cursorAfter, if_pos hlt]
      rfl
    · simp only [State.after, cursorAfter, if_neg hge]
      rfl
  | mrSlaAck =>
    cases h
    rw [reply_eq]
    rfl
  | mrDataAck =>
    cases h
    rw [reply_eq]
    exact receive_eq_after (.inl rfl) _ _
  | mrDataNack =>
    cases h
    exact receive_eq_after (.inr rfl) _ _
  | mrSlaNack =>
    cases (exec_mrSlaNack s).symm.trans h
    rfl
  | srDataAck | srDataNack | srGcallDataAck | srGcallDataNack =>
    cases h
    exact receiveSlave_eq_after rfl
  | srStop =>
    obtain ⟨ops, rfl⟩ := execSrStop_eq_next h
    rfl
  | stDataAck => exact execStDataAck_eq_after h
  | idleStSlaAck => exact execIdleStSlaAck_eq_after h
  | init => exact execInit_eq_after h
  | sendTo | readFrom => exact startsTransaction_eq_after rfl h
  | setRxHandler =>
    simp only [exec, execSetRxHandler] at h
    split at h <;> cases h <;> rfl
  | setTxProvider =>
    simp only [exec, execSetTxProvider] at h
    split at h <;> cases h <;> rfl
  | anyBusError | anyArbLost | anyNoInfo | idleSrSlaAck | idleSrGcallAck | mtStart | mtRepStart
    | mtSlaNack | mtDataNack | mrStart | mrRepStart | stDataNack | stLastData | disable =>
    cases h
    rfl
  | opNone | opStart | opStop | opNextAck | opNextNack | opRelease | opWrData | opRdData | opEnable
    | opDisableBc | opSetOwnAddr | opSetClockDiv | opCallRx | opCallTx =>
    cases h
    rfl

end Sys2Proof.Machine
end

section
/-! PROOF. R5, R17, R19 to R29, R48, R55, R155: the writers of each field, read off the equation of what an
instruction writes. -/

namespace Sys2Proof.Machine

variable {s t : State}

/-! ### Which families an instruction is not in -/

theorem families_of_isCommand {i : Instr} (hi : isCommand i = true) :
    storesRxb i = false ∧ i ≠ .idleStSlaAck ∧ ¬ (i = .idleSrSlaAck ∨ i = .idleSrGcallAck) := by
  cases i with
  | init | disable | sendTo | readFrom | setRxHandler | setTxProvider =>
    exact ⟨rfl, nofun, by rintro (h | h) <;> cases h⟩
  | _ => cases hi

theorem families_of_isDispatch {i : Instr} (hi : isDispatch i = true) :
    startsTransaction i = false ∧ isInit i = false ∧ i ≠ .disable ∧ isSetRx i = false ∧
      isSetTx i = false := by
  cases i with
  | init | disable | sendTo | readFrom | setRxHandler | setTxProvider => cases hi
  | _ => exact ⟨rfl, rfl, nofun, rfl, rfl⟩

theorem startsTransaction_of_storesMb {i : Instr} (hi : storesMb i = true) :
    startsTransaction i = false := by
  cases i with
  | mrDataAck | mrDataNack => rfl
  | _ => cases hi

/-! ### The record of a step -/

/-- Settles O15: no instruction writes the parameters, the inputs to come or the history. -/
theorem stepRecordsItsOutputs : Obligations.StepRecordsItsOutputs := by
  intro s t hs
  obtain ⟨hin, rfl⟩ | ⟨p, rest, i, u, hin, -, hu, rfl⟩ := step_eq_next.mp hs
  · simp [hin]
  · have h := exec_eq_after hu
    have hconfig : u.config = s.config := (congrArg State.config h).trans (by simp [State.after])
    have hinbox : u.inbox = rest := (congrArg State.inbox h).trans (by simp [State.after])
    have hhistory : u.history = s.history := (congrArg State.history h).trans (by simp [State.after])
    simp [hin, hconfig, hinbox, hhistory]

/-! ### Configuration and registrations -/

/-- R19 to R22: `INIT` alone writes the configuration. -/
theorem exec_configuration {i : Instr} (hi : isInit i = false) (h : exec i s = .next t) :
    t.mode = s.mode ∧ t.ownAddress = s.ownAddress ∧ t.rxCapacity = s.rxCapacity ∧
      t.clockSpeedHz = s.clockSpeedHz ∧ t.pullupEnabled = s.pullupEnabled := by
  rw [exec_eq_after h]
  simp only [State.after, hi]
  exact ⟨rfl, rfl, rfl, rfl, rfl⟩

/-- R23, decision D19: `INIT` and `DISABLE` alone write `enabled`. -/
theorem exec_enabled {i : Instr} (hi : isInit i = false) (hd : i ≠ .disable)
    (h : exec i s = .next t) : t.enabled = s.enabled := by
  rw [exec_eq_after h]
  simp [State.after, hi, hd]

/-- R25: `SET_RX_HANDLER` alone writes the handler. -/
theorem exec_rxHandler {i : Instr} (hi : isSetRx i = false) (h : exec i s = .next t) :
    t.rxHandler = s.rxHandler := by
  rw [exec_eq_after h]
  simp [State.after, hi]

/-- R26: `SET_TX_PROVIDER` alone writes the provider and its maximum. -/
theorem exec_provider {i : Instr} (hi : isSetTx i = false) (h : exec i s = .next t) :
    t.txProvider = s.txProvider ∧ t.maxTxLength = s.maxTxLength := by
  rw [exec_eq_after h]
  simp only [State.after, hi]
  exact ⟨rfl, rfl⟩

theorem exec_rxHandlerActive {i : Instr} (h : exec i s = .next t) :
    t.rxHandlerActive = activeAfter i s :=
  congrArg State.rxHandlerActive (exec_eq_after h)

/-! ### The stores -/

theorem exec_mb {i : Instr} (hi : startsTransaction i = false) (h : exec i s = .next t) :
    t.mb = mbAfter i s := by
  rw [exec_eq_after h]
  simp [State.after, hi]

theorem exec_rxb {i : Instr} (h : exec i s = .next t) : t.rxb = rxbAfter i s :=
  congrArg State.rxb (exec_eq_after h)

theorem exec_txb {i : Instr} (h : exec i s = .next t) : t.txb = txbAfter i s :=
  congrArg State.txb (exec_eq_after h)

theorem mbAfter_of_not_storesMb {i : Instr} (hi : storesMb i = false) (s : State) :
    mbAfter i s = s.mb := by
  simp [mbAfter, hi]

theorem rxbAfter_of_not_storesRxb {i : Instr} (hi : storesRxb i = false) (s : State) :
    rxbAfter i s = s.rxb := by
  simp [rxbAfter, hi]

theorem txbAfter_of_ne {i : Instr} (hi : i ≠ .idleStSlaAck) (s : State) : txbAfter i s = s.txb :=
  if_neg hi

/-- R55: every byte of a store after a guarded write. -/
theorem read_guarded_write (m : Memory) (k : Nat) (b : Byte) (c : Prop) [Decidable c] :
    (∀ a, a ≠ k → (if c then m.write k b else m).read a = m.read a) ∧
      (if c then m.write k b else m).read k = if c then some b else m.read k := by
  split
  · exact ⟨fun a ha => Memory.read_write_other m b ha, Memory.read_write_same m k b⟩
  · exact ⟨fun _ _ => rfl, rfl⟩

/-- Settles O21: a store instruction makes one guarded write at the cursor, and every other instruction
keeps the store or rebinds it. -/
theorem storesChangeOnlyAtTheCursor : Obligations.StoresChangeOnlyAtTheCursor := by
  refine fun i s t h => ⟨fun hi => ?_, fun hi hst a => ?_, fun hi => ?_, fun hi a => ?_, fun hi a => ?_⟩
  · rw [exec_mb (startsTransaction_of_storesMb hi) h, mbAfter, if_pos hi]
    exact read_guarded_write ..
  · rw [exec_mb hst h, mbAfter_of_not_storesMb hi]
  · rw [exec_rxb h, rxbAfter, if_pos hi]
    exact read_guarded_write ..
  · rw [exec_rxb h, rxbAfter_of_not_storesRxb hi]
  · rw [exec_txb h, txbAfter_of_ne hi]

/-- Settles O20: each kind of instruction is outside the families that write the other's fields. -/
theorem commandsAndStepsWriteTheirOwnFields : Obligations.CommandsAndStepsWriteTheirOwnFields := by
  refine ⟨fun i s t hi h => ?_, fun i s t hi h => ?_⟩
  · obtain ⟨hrx, htrigger, hactive⟩ := families_of_isCommand hi
    exact ⟨(exec_rxb h).trans (rxbAfter_of_not_storesRxb hrx s),
      (exec_txb h).trans (txbAfter_of_ne htrigger s), (exec_rxHandlerActive h).trans (if_neg hactive)⟩
  · obtain ⟨hstart, hinit, hdisable, hsetRx, hsetTx⟩ := families_of_isDispatch hi
    obtain ⟨hmode, hown, hcap, hclock, hpullup⟩ := exec_configuration hinit h
    obtain ⟨hprovider, hmax⟩ := exec_provider hsetTx h
    exact ⟨exec_peerAddress hstart h, hmode, hown, hcap, hclock, hpullup, exec_enabled hinit hdisable h,
      exec_rxHandler hsetRx h, hprovider, hmax,
      fun hst => (exec_mb hstart h).trans (mbAfter_of_not_storesMb hst s)⟩

/-- Settles O24: the lemma on producible lists says it of every instruction. -/
theorem outputListsAreThoseOfTheTable : Obligations.OutputListsAreThoseOfTheTable :=
  fun _ _ _ h => exec_appends_producible h

end Sys2Proof.Machine
end

section
/-! SUPPORT. Fields that the dispatches of a transaction in flight neither read nor write: replacing them
beforehand is replacing them afterwards. -/

namespace Sys2Proof.Machine

variable {s : State}

/-- New values for some of the fields that a transaction in flight does not look at. -/
structure Replacement where
  lastError : Option ErrorCode := none
  mode : Option Mode := none
  ownAddress : Option BusAddress := none
  clockSpeedHz : Option Nat := none
  pullupEnabled : Option Bool := none
  enabled : Option Bool := none
  rxHandler : Option (Option CallbackId) := none
  txProvider : Option (Option CallbackId) := none
  maxTxLength : Option Nat := none

/-- `s` with the replaced fields; a field for which no value is given is kept. -/
def State.replace (r : Replacement) (s : State) : State :=
  { s with
    lastError := r.lastError.getD s.lastError, mode := r.mode.getD s.mode
    ownAddress := r.ownAddress.getD s.ownAddress, clockSpeedHz := r.clockSpeedHz.getD s.clockSpeedHz
    pullupEnabled := r.pullupEnabled.getD s.pullupEnabled, enabled := r.enabled.getD s.enabled
    rxHandler := r.rxHandler.getD s.rxHandler, txProvider := r.txProvider.getD s.txProvider
    maxTxLength := r.maxTxLength.getD s.maxTxLength }

theorem store_replace (r : Replacement) (n : StoreName) (s : State) :
    (s.replace r).store n = s.store n := by cases n <;> rfl

theorem loadAndSend_replace (r : Replacement) (n : StoreName) {k : State → State}
    (hk : ∀ u, k (u.replace r) = (k u).replace r) :
    (s.replace r).loadAndSend n k = mapNext (State.replace r) (s.loadAndSend n k) := by
  cases hb : (s.store n).read s.cursor with
  | none =>
    rw [loadAndSend_of_none hb, loadAndSend_of_none (by rwa [store_replace])]
    rfl
  | some b =>
    rw [loadAndSend_of_byte hb, loadAndSend_of_byte (b := b) (by rwa [store_replace])]
    exact congrArg Host.Outcome.next (hk (s.advance.writeData b))

theorem sendNext_replace (r : Replacement) (s : State) :
    (s.replace r).sendNext = mapNext (State.replace r) s.sendNext := by
  unfold State.sendNext
  rw [apply_ite (mapNext _), loadAndSend_replace r .mb (k := State.emit .nextAck) fun _ => rfl]
  rfl

theorem sendSlave_replace (r : Replacement) (s : State) :
    (s.replace r).sendSlave = mapNext (State.replace r) s.sendSlave := by
  unfold State.sendSlave
  rw [apply_ite (mapNext _), loadAndSend_replace r .txb (k := State.announce) fun _ => rfl]
  rfl

theorem reply_replace (r : Replacement) (s : State) : (s.replace r).reply = s.reply.replace r := by
  unfold State.reply
  rw [apply_ite (State.replace r), apply_ite (State.replace r)]
  rfl

theorem receive_replace (r : Replacement) (s : State) :
    (s.replace r).receive = s.receive.replace r := by
  unfold State.receive
  rw [apply_ite (State.replace r)]
  rfl

theorem receiveSlave_replace (r : Replacement) (s : State) :
    (s.replace r).receiveSlave = s.receiveSlave.replace r := by
  unfold State.receiveSlave
  rw [apply_ite (State.replace r)]
  rfl

theorem execSrStop_replace (r : Replacement) (s : State) :
    execSrStop (s.replace r) = mapNext (State.replace r) (execSrStop s) := by
  have hactive : (s.replace r).rxHandlerActive = s.rxHandlerActive := rfl
  have hrxb : (s.replace r).rxb = s.rxb := rfl
  have hcursor : (s.replace r).cursor = s.cursor := rfl
  simp only [execSrStop, hactive, hrxb, hcursor]
  cases s.rxHandlerActive with
  | none => rfl
  | some h => cases s.rxb.bytes s.cursor <;> rfl

theorem execStDataAck_replace (r : Replacement) (s : State) :
    execStDataAck (s.replace r) = mapNext (State.replace r) (execStDataAck s) := by
  unfold execStDataAck
  rw [apply_ite (mapNext _), sendSlave_replace]
  rfl

/-- R121: asking the provider, if neither it nor its maximum is replaced. -/
theorem obtainBytes_replace {r : Replacement} (hp : r.txProvider = none) (hm : r.maxTxLength = none)
    (s : State) : (s.replace r).obtainBytes = s.obtainBytes.replace r := by
  have hprovider : (s.replace r).txProvider = s.txProvider := by simp [State.replace, hp]
  cases h : s.txProvider with
  | none =>
    rw [obtainBytes_of_no_provider h, obtainBytes_of_no_provider (hprovider.trans h)]
    rfl
  | some p =>
    rw [obtainBytes_of_provider h, obtainBytes_of_provider (hprovider.trans h)]
    simp [State.replace, hm]

/-- The dispatches of a transaction in flight, without the five that record an error. -/
def movesOn (i : Instr) : Bool :=
  i ∈ [.anyNoInfo, .mtStart, .mtRepStart, .mtSlaAck, .mtDataAck, .mrStart, .mrRepStart, .mrSlaAck,
    .mrDataAck, .mrDataNack, .srDataAck, .srDataNack, .srGcallDataAck, .srGcallDataNack, .srStop,
    .stDataAck, .stDataNack, .stLastData]

/-- A transaction that moves on neither reads nor writes the replaced fields. -/
theorem exec_replace_of_movesOn (r : Replacement) {i : Instr} (hi : movesOn i = true) (s : State) :
    exec i (s.replace r) = mapNext (State.replace r) (exec i s) := by
  cases i with
  | anyNoInfo | mtStart | mtRepStart | mrStart | mrRepStart | stDataNack | stLastData => rfl
  | mtSlaAck | mtDataAck => exact sendNext_replace r s
  | mrSlaAck => exact congrArg Host.Outcome.next (reply_replace r s)
  | mrDataAck =>
    rw [exec_mrDataAck, exec_mrDataAck, receive_replace, reply_replace]
    rfl
  | mrDataNack =>
    rw [exec_mrDataNack, exec_mrDataNack, receive_replace]
    rfl
  | srDataAck | srDataNack | srGcallDataAck | srGcallDataNack =>
    exact congrArg Host.Outcome.next (receiveSlave_replace r s)
  | srStop => exact execSrStop_replace r s
  | stDataAck => exact execStDataAck_replace r s
  | _ => cases hi

/-- The slave triggers and the five error dispatches are what a dispatch can be besides. -/
theorem movesOn_of_isDispatch {i : Instr} (hi : isDispatch i = true) (ht : isTrigger i = false) :
    movesOn i = true ∨ i ∈ [.mtSlaNack, .mtDataNack, .mrSlaNack, .anyArbLost, Instr.anyBusError] := by
  cases i with
  | mtSlaNack | mtDataNack | mrSlaNack | anyArbLost | anyBusError => exact .inr (by simp)
  | idleSrSlaAck | idleSrGcallAck | idleStSlaAck => cases ht
  | init | disable | sendTo | readFrom | setRxHandler | setTxProvider => cases hi
  | opNone | opStart | opStop | opNextAck | opNextNack | opRelease | opWrData | opRdData | opEnable
    | opDisableBc | opSetOwnAddr | opSetClockDiv | opCallRx | opCallTx => cases hi
  | _ => exact .inl rfl

/-- Outside the triggers no dispatch reads a replaced field, if the error is not among them. -/
theorem exec_replace_of_isDispatch {r : Replacement} (hr : r.lastError = none) {i : Instr}
    (hi : isDispatch i = true) (ht : isTrigger i = false) (s : State) :
    exec i (s.replace r) = mapNext (State.replace r) (exec i s) := by
  obtain hmoves | herr := movesOn_of_isDispatch hi ht
  · exact exec_replace_of_movesOn r hmoves s
  · simp only [List.mem_cons, List.not_mem_nil, or_false] at herr
    have htake (e : ErrorCode) (op : Op) :
        (s.replace r).takeError e op = (s.takeError e op).replace r := by
      simp [State.takeError, State.recordError, State.emit, State.terminate, State.replace, hr]
    obtain rfl | rfl | rfl | rfl | rfl := herr
    · exact congrArg Host.Outcome.next (htake ..)
    · exact congrArg Host.Outcome.next (htake ..)
    · have herror : errorAfter .mrSlaNack (s.replace r) = errorAfter .mrSlaNack s := by
        simp [errorAfter, State.replace, hr]
      rw [exec_mrSlaNack, exec_mrSlaNack, herror, htake]
      rfl
    · exact congrArg Host.Outcome.next (htake ..)
    · exact congrArg Host.Outcome.next (htake ..)

end Sys2Proof.Machine
end

section
/-! PROOF. R17, R19 to R26, R54: which fields an instruction does not read. -/

namespace Sys2Proof.Machine

variable {s t : State}

/-! ### `lastError` -/

/-- R17: the error an instruction leaves. -/
theorem exec_lastError {i : Instr} (h : exec i s = .next t) : t.lastError = errorAfter i s :=
  congrArg State.lastError (exec_eq_after h)

/-- `s` with another error. -/
abbrev State.withError (e : ErrorCode) (s : State) : State := s.replace { lastError := some e }

/-- Writing again the error that the instruction leaves changes nothing. -/
theorem mapNext_withError_errorAfter (i : Instr) (s : State) :
    mapNext (State.withError (errorAfter i s)) (exec i s) = exec i s := by
  cases h : exec i s with
  | next t =>
    rw [← exec_lastError h]
    rfl
  | fault | refused => rfl

/-- An instruction that overwrites the error forgets what it was. -/
theorem exec_withError_of_overwrites {i : Instr} {e : ErrorCode}
    (he : errorAfter i (s.withError e) = errorAfter i s) (hx : exec i (s.withError e) = exec i s) :
    exec i (s.withError e) = mapNext (State.withError (errorAfter i (s.withError e))) (exec i s) := by
  rw [he, hx, mapNext_withError_errorAfter]

theorem execInit_withError (mode : Mode) (clock : Nat) (own : BusAddress) (cap : Nat) (pullup : Bool)
    (s : State) (e : ErrorCode) :
    exec (.init mode clock own cap pullup) (s.withError e) =
      mapNext (State.withError (errorAfter (.init mode clock own cap pullup) (s.withError e)))
        (exec (.init mode clock own cap pullup) s) := by
  have hsame : (s.withError e).acceptsInit mode clock cap = s.acceptsInit mode clock cap := rfl
  cases hacc : s.acceptsInit mode clock cap with
  | true =>
    refine exec_withError_of_overwrites ?_ ?_
    · simp only [errorAfter, hsame, hacc, if_true]
    · rw [exec_init_of_accepts (hsame.trans hacc), exec_init_of_accepts hacc]
      rfl
  | false =>
    rw [exec_init_of_not_accepts (hsame.trans hacc), exec_init_of_not_accepts hacc]
    simp only [errorAfter, hsame, hacc]
    rfl

theorem errorAfter_of_startsTransaction {i : Instr} (hi : startsTransaction i = true) (s : State) :
    errorAfter i s = if s.acceptsTransaction then .ok else s.lastError := by
  cases i with
  | sendTo | readFrom => rfl
  | _ => cases hi

theorem exec_withError_of_startsTransaction {i : Instr} (hi : startsTransaction i = true) (s : State)
    (e : ErrorCode) :
    exec i (s.withError e) = mapNext (State.withError (errorAfter i (s.withError e))) (exec i s) := by
  obtain ⟨role, address, buffer, length, heq⟩ := exec_of_startsTransaction hi
  have hsame : (s.withError e).acceptsTransaction = s.acceptsTransaction := rfl
  rw [heq, heq, errorAfter_of_startsTransaction hi, hsame]
  cases s.acceptsTransaction <;> rfl

/-- R17: the error is not read; an instruction overwrites it or keeps the new one. -/
theorem exec_withError (i : Instr) (s : State) (e : ErrorCode) :
    exec i (s.withError e) = mapNext (State.withError (errorAfter i (s.withError e))) (exec i s) := by
  cases i with
  | mtSlaNack | mtDataNack | anyArbLost | anyBusError | idleSrSlaAck | idleSrGcallAck | idleStSlaAck =>
    exact exec_withError_of_overwrites rfl rfl
  | mrSlaNack =>
    rw [exec_mrSlaNack, exec_mrSlaNack]
    rfl
  | init mode clock own cap pullup => exact execInit_withError mode clock own cap pullup s e
  | sendTo | readFrom => exact exec_withError_of_startsTransaction rfl s e
  | setRxHandler | setTxProvider =>
    simp only [exec, execSetRxHandler, execSetTxProvider, apply_ite (mapNext _)]
    rfl
  | anyNoInfo | mtStart | mtRepStart | mtSlaAck | mtDataAck | mrStart | mrRepStart | mrSlaAck
    | mrDataAck | mrDataNack | srDataAck | srDataNack | srGcallDataAck | srGcallDataNack | srStop
    | stDataAck | stDataNack | stLastData => exact exec_replace_of_movesOn _ rfl s
  | disable => rfl
  | opNone | opStart | opStop | opNextAck | opNextNack | opRelease | opWrData | opRdData | opEnable
    | opDisableBc | opSetOwnAddr | opSetClockDiv | opCallRx | opCallTx => rfl

/-- Settles O18: the equation of what an instruction writes gives the values, and replacing the error
shows that none is read. -/
theorem lastErrorWritersAndNoReader : Obligations.LastErrorWritersAndNoReader :=
  ⟨fun _ _ _ h => exec_lastError h, exec_withError⟩

/-! ### Configuration and registrations -/

/-- `s` with other configuration registers, but for `rxCapacity`. -/
abbrev State.withSetup (m : Mode) (own : BusAddress) (clock : Nat) (pullup on : Bool) (s : State) : State :=
  s.replace { mode := some m, ownAddress := some own, clockSpeedHz := some clock
              pullupEnabled := some pullup, enabled := some on }

/-- R19 to R23: no dispatch reads these configuration registers, the triggers neither. -/
theorem exec_withSetup {i : Instr} (hi : isDispatch i = true) (s : State) (m : Mode) (own : BusAddress)
    (clock : Nat) (pullup on : Bool) :
    exec i (s.withSetup m own clock pullup on) =
      mapNext (State.withSetup m own clock pullup on) (exec i s) := by
  cases ht : isTrigger i with
  | false => exact exec_replace_of_isDispatch rfl hi ht s
  | true =>
    cases i with
    | idleSrSlaAck | idleSrGcallAck => rfl
    | idleStSlaAck =>
      rw [exec_idleStSlaAck, exec_idleStSlaAck, ← sendSlave_replace, ← obtainBytes_replace rfl rfl]
      rfl
    | _ => cases ht

/-- Settles O19: the equation of what an instruction writes gives the writers, and replacing the registers
shows that no dispatch reads them. -/
theorem configurationWritersAndReaders : Obligations.ConfigurationWritersAndReaders := by
  refine ⟨fun i s t hi h => ?_,
    fun i s m own clock pullup on hi => exec_withSetup hi s m own clock pullup on⟩
  obtain ⟨hmode, hown, hcap, hclock, hpullup⟩ := exec_configuration hi h
  exact ⟨hmode, hown, hcap, hclock, hpullup, fun hd => exec_enabled hi hd h⟩

/-- R26: only its command and its trigger look at the provider and its maximum. -/
theorem exec_withProvider {i : Instr} (hi : isSetTx i = false) (hne : i ≠ .idleStSlaAck) (s : State)
    (q : Option CallbackId) (m : Nat) :
    exec i (s.replace { txProvider := some q, maxTxLength := some m }) =
      mapNext (State.replace { txProvider := some q, maxTxLength := some m }) (exec i s) := by
  cases hd : isDispatch i with
  | true =>
    cases ht : isTrigger i with
    | false => exact exec_replace_of_isDispatch rfl hd ht s
    | true =>
      cases i with
      | idleSrSlaAck | idleSrGcallAck => rfl
      | idleStSlaAck => exact absurd rfl hne
      | _ => cases ht
  | false =>
    cases i with
    | init | sendTo | readFrom | setRxHandler =>
      simp only [exec, execInit, execSendTo, execReadFrom, execSetRxHandler, apply_ite (mapNext _)]
      rfl
    | setTxProvider => cases hi
    | disable => rfl
    | opNone | opStart | opStop | opNextAck | opNextNack | opRelease | opWrData | opRdData | opEnable
      | opDisableBc | opSetOwnAddr | opSetClockDiv | opCallRx | opCallTx => rfl
    | _ => cases hd

/-- Settles O22: the equation of what an instruction writes gives the writers, and replacing the provider
shows who reads it. -/
theorem registrationWriters : Obligations.RegistrationWriters :=
  ⟨fun _ _ _ h => ⟨fun hi => exec_rxHandler hi h, fun hi => exec_provider hi h, exec_rxHandlerActive h⟩,
    fun _ s q m hi hne => exec_withProvider hi hne s q m⟩

/-- R121: the trigger of slave-transmit calls the registered provider and bounds its answer. -/
theorem exec_idleStSlaAck_of_provider {q : CallbackId} (hq : s.txProvider = some q)
    (h : exec .idleStSlaAck s = .next t) :
    .callTx q ∈ t.out ∧ t.length = min s.txAnswer.length s.maxTxLength := by
  constructor
  · rw [exec_idleStSlaAck, obtainBytes_of_provider (s := s.triggerTransmit) hq] at h
    obtain ⟨ops, hout, -⟩ := sendSlave_appends h
    simp [hout]
  · rw [exec_eq_after h]
    simp only [State.after, lengthAfter, hq, Option.isSome_some, if_true]

/-- Settles O23: no dispatch in flight reads a registration, an accepted command stores it, and the
triggers read what is stored. -/
theorem replacedRegistrationsWaitForTheNextTrigger :
    Obligations.ReplacedRegistrationsWaitForTheNextTrigger := by
  refine ⟨fun i s h q m hi ht => ?_, fun s h hs => (exec_registrations_of_slave hs h 0 0).1,
    fun s q m hs => (exec_registrations_of_slave hs 0 q m).2, fun s t i hi h => ?_,
    fun s t q hq h => exec_idleStSlaAck_of_provider hq h⟩
  · exact exec_replace_of_isDispatch
      (r := { rxHandler := some h, txProvider := some q, maxTxLength := some m }) rfl hi ht s
  · exact (exec_rxHandlerActive h).trans (if_pos hi)

end Sys2Proof.Machine
end

section
/-! SUPPORT. Where a step that does not go on has stopped: a word that is no instruction, or a byte that a
store does not hold. -/

namespace Sys2Proof.Machine

variable {s t : State}

/-- Only the dispatches that send a byte and `SR.STOP` read a store; every other instruction always goes
on. -/
theorem exec_goes_on {i : Instr} (hsend : sendsByte i = false) (hstop : i ≠ .srStop) (s : State) :
    ∃ t, exec i s = .next t := by
  cases i with
  | mtSlaAck | mtDataAck | idleStSlaAck | stDataAck => cases hsend
  | srStop => exact absurd rfl hstop
  | mrSlaNack => exact ⟨_, exec_mrSlaNack s⟩
  | init | sendTo | readFrom | setRxHandler | setTxProvider =>
    exact (exec_eq_next_of_isCommand rfl s).imp fun _ h => h.1
  | _ => exact ⟨_, rfl⟩

/-- A result that is a next state, or the fault of a byte that is not there. -/
def StopsForMissingByte : Result → Prop
  | .next _ => True
  | .fault (.protocolViolation _ _) => False
  | .fault (.noByte _ _) => True
  | .fault (.noPrefix _) => True
  | .refused _ => False

theorem loadAndSend_stops (n : StoreName) (k : State → State) :
    StopsForMissingByte (s.loadAndSend n k) := by
  unfold State.loadAndSend
  split <;> trivial

theorem sendNext_stops : StopsForMissingByte s.sendNext := by
  unfold State.sendNext
  split
  · exact loadAndSend_stops ..
  · trivial

theorem sendSlave_stops : StopsForMissingByte s.sendSlave := by
  unfold State.sendSlave
  split
  · exact loadAndSend_stops ..
  · trivial

/-- No instruction is refused, and none raises `ProtocolViolation`. -/
theorem exec_stops (i : Instr) (s : State) : StopsForMissingByte (exec i s) := by
  cases hsend : sendsByte i with
  | false =>
    by_cases hstop : i = .srStop
    · subst hstop
      show StopsForMissingByte (execSrStop s)
      unfold execSrStop
      split
      · trivial
      · split <;> trivial
    · obtain ⟨t, ht⟩ := exec_goes_on hsend hstop s
      rw [ht]
      trivial
  | true =>
    cases i with
    | mtSlaAck | mtDataAck => exact sendNext_stops
    | idleStSlaAck => exact sendSlave_stops
    | stDataAck =>
      show StopsForMissingByte (execStDataAck s)
      unfold execStDataAck
      split
      · exact sendSlave_stops
      · trivial
    | _ => cases hsend

/-- R70 (a), (b), R133: an interrupt that is no instruction raises `ProtocolViolation`. -/
theorem reject_interrupt {c : BitVec 8} {b : Byte} {tx : List Byte} {rest : List Packet} {r : Reject}
    (h : decoded s (.interrupt c b tx) rest = .error r) :
    (s.beginStep (.interrupt c b tx) rest).reject r = .fault (.protocolViolation s.role c) := by
  rw [decoded_interrupt, decode] at h
  split at h <;> cases h
  rfl

/-- R70 (c), (d): any other packet that is no instruction is refused. -/
theorem reject_of_not_interrupt {p : Packet} {rest : List Packet} {r : Reject}
    (hp : ∀ c b tx, p ≠ .interrupt c b tx) (h : decoded s p rest = .error r) (u : State) :
    ∃ x, u.reject r = .refused x := by
  cases p with
  | interrupt c b tx => exact absurd rfl (hp c b tx)
  | command cop args =>
    change decode s.config (.command cop args) = .error r at h
    rw [decode] at h
    split at h
    · rw [(checkOperands_error h).1]
      exact ⟨_, rfl⟩
    · cases h
      exact ⟨_, rfl⟩
  | operation bop args b tx =>
    change decode s.config (.operation bop args) = .error r at h
    rw [decode] at h
    split at h
    · rw [(checkOperands_error h).1]
      exact ⟨_, rfl⟩
    · cases h
      exact ⟨_, rfl⟩

theorem leave_eq_fault {r : Result} {f : Fault} : leave r = .fault f ↔ r = .fault f := by
  cases r <;> simp [leave]

theorem leave_eq_refused {r : Result} {x : Refusal} : leave r = .refused x ↔ r = .refused x := by
  cases r <;> simp [leave]

/-- R133, R163: a step that faults had an undefined dispatch, or its instruction found a byte missing. -/
theorem step_eq_fault {f : Fault} (hs : step s = .fault f) :
    (∃ c b tx rest r, s.inbox = .interrupt c b tx :: rest ∧
        decoded s (.interrupt c b tx) rest = .error r ∧ f = .protocolViolation s.role c) ∨
      ∃ p rest i, s.inbox = p :: rest ∧ decoded s p rest = .ok i ∧
        exec i (s.beginStep p rest) = .fault f := by
  rcases hin : s.inbox with _ | ⟨p, rest⟩
  · rw [step_nil hin] at hs
    cases hs
  · cases hd : decoded s p rest with
    | ok i =>
      rw [step_ok hin hd] at hs
      exact .inr ⟨p, rest, i, rfl, hd, leave_eq_fault.mp hs⟩
    | error r =>
      rw [step_error hin hd] at hs
      by_cases hp : ∃ c b tx, p = .interrupt c b tx
      · obtain ⟨c, b, tx, rfl⟩ := hp
        cases (reject_interrupt hd).symm.trans hs
        exact .inl ⟨c, b, tx, rest, r, rfl, hd, rfl⟩
      · push Not at hp
        obtain ⟨x, hx⟩ := reject_of_not_interrupt hp hd (s.beginStep p rest)
        cases hx.symm.trans hs

/-- An instruction never faults with `ProtocolViolation`. -/
theorem exec_ne_violation (i : Instr) (s : State) (r : Role) (c : BitVec 8) :
    exec i s ≠ .fault (.protocolViolation r c) := by
  intro h
  have hstops := exec_stops i s
  rwa [h] at hstops

/-- Whatever is refused is not an interrupt. -/
theorem step_eq_refused {x : Refusal} (hs : step s = .refused x) :
    ∃ p rest, s.inbox = p :: rest ∧ ∀ c b tx, p ≠ .interrupt c b tx := by
  rcases hin : s.inbox with _ | ⟨p, rest⟩
  · rw [step_nil hin] at hs
    cases hs
  · refine ⟨p, rest, rfl, ?_⟩
    rintro c b tx rfl
    cases hd : decoded s (.interrupt c b tx) rest with
    | ok i =>
      have hstops := exec_stops i (s.beginStep (.interrupt c b tx) rest)
      rw [step_ok hin hd] at hs
      rwa [leave_eq_refused.mp hs] at hstops
    | error r =>
      rw [step_error hin hd, reject_interrupt hd] at hs
      cases hs

end Sys2Proof.Machine
end

section
/-! PROOF. R70, R133, R163, R167: what a step does with its input. -/

namespace Sys2Proof.Machine

variable {s t : State}

/-- Settles O6: entering a step is the record written in the statement, and leaving it appends the
outputs. -/
theorem stepRunsTheDecodedInstruction : Obligations.StepRunsTheDecodedInstruction :=
  ⟨fun _ _ _ _ _ _ hin hd => (step_ok hin hd).trans rfl, fun _ _ _ _ _ hin hd => (step_ok hin hd).trans rfl,
    fun _ _ _ _ _ _ _ hin hd => (step_ok hin hd).trans rfl⟩

/-- Settles O8: with no handler the word is rejected; with one, the instruction runs and never raises
`ProtocolViolation`. -/
theorem undefinedDispatchesAndNoOthersViolate : Obligations.UndefinedDispatchesAndNoOthersViolate := by
  refine ⟨fun s c b tx rest hin => ⟨fun hnone => ?_, fun hs => ?_⟩, fun s r c hs => ?_⟩
  · have hd : decoded s (.interrupt c b tx) rest =
        .error (.undefinedDispatch (dispatchWord s.role.code c)) := by
      simp only [decoded_interrupt, decode, hnone]
    rw [step_error hin hd, reject_interrupt hd]
  · cases hi : decodeDispatch s.config.statusTable (dispatchWord s.role.code c) with
    | none => rfl
    | some i =>
      have hd : decoded s (.interrupt c b tx) rest = .ok i := decode_dispatch_eq_ok.mpr hi
      obtain ⟨c', b', tx', rest', r, hin', herr, -⟩ | ⟨p, rest', j, -, -, hx⟩ := step_eq_fault hs
      · cases hin.symm.trans hin'
        cases hd.symm.trans herr
      · exact absurd hx (exec_ne_violation j _ _ _)
  · obtain ⟨c', b, tx, rest, -, hin, -, heq⟩ | ⟨p, rest, j, -, -, hx⟩ := step_eq_fault hs
    · cases heq
      exact ⟨rfl, b, tx, rest, hin⟩
    · exact absurd hx (exec_ne_violation j _ _ _)

theorem decodeCommand_of_reserved {cop : BitVec 3} (h : 6 ≤ cop.toNat) (args : CommandArgs) :
    decodeCommand cop args = none := by
  have hnone : ∀ cop : BitVec 3, 6 ≤ cop.toNat → decodeCommand cop {} = none := by decide
  have hmap := mnemonic_decodeCommand cop args
  rw [hnone cop h] at hmap
  exact Option.map_eq_none_iff.mp hmap

theorem decodeOperation_of_reserved {bop : BitVec 4} (h : 14 ≤ bop.toNat) (args : OpArgs) :
    decodeOperation bop args = none := by
  have hnone : ∀ bop : BitVec 4, 14 ≤ bop.toNat → decodeOperation bop {} = none := by decide
  have hmap := mnemonic_decodeOperation bop args
  rw [hnone bop h] at hmap
  exact Option.map_eq_none_iff.mp hmap

/-- Settles O9: the decoder rejects each of the three by name, and a rejected word is refused by it. -/
theorem reservedAndIllFormedInputsAreRefused : Obligations.ReservedAndIllFormedInputsAreRefused := by
  refine ⟨fun s cop args rest hin h => ?_, fun s bop args b tx rest hin h => ?_,
    fun s cop args rest i hin hi hw => ?_⟩
  · have hd : decoded s (.command cop args) rest = .error (.reservedCommand cop) := by
      simp only [decoded, State.fetch, decode, decodeCommand_of_reserved h]
    rw [step_error hin hd, State.reject]
  · have hd : decoded s (.operation bop args b tx) rest = .error (.reservedOperation bop) := by
      simp only [decoded, State.fetch, decode, decodeOperation_of_reserved h]
    rw [step_error hin hd, State.reject]
  · have hd : decoded s (.command cop args) rest = .error (.illFormed i.mnemonic) := by
      simp [decoded, State.fetch, decode, hi, checkOperands, hw]
    rw [step_error hin hd, State.reject]

end Sys2Proof.Machine
end

section
/-! PROOF. The invariant: each shared operation keeps it, and each instruction is a composition of them.
What the decoder checked (the role, the operands) is a hypothesis. -/

namespace Sys2Proof.Machine

variable {s t : State}

theorem wellFormed_of_isDispatch {i : Instr} (hi : isDispatch i = true) (cfg : Config) :
    wellFormed cfg i = true := by
  cases i with
  | sendTo | readFrom | setTxProvider | opCallRx => cases hi
  | _ => rfl

/-- R70: what is decoded has operands of the types the spec gives them. -/
theorem wellFormed_of_decoded {p : Packet} {rest : List Packet} {i : Instr}
    (hd : decoded s p rest = .ok i) : wellFormed s.config i = true := by
  cases p with
  | interrupt c b tx => exact wellFormed_of_isDispatch (isDispatch_of_decoded hd) _
  | command cop args =>
    change decode s.config (.command cop args) = .ok i at hd
    rw [decode, decodeCommand_of_decode hd] at hd
    exact (checkOperands_ok hd).2
  | operation bop args b tx =>
    change decode s.config (.operation bop args) = .ok i at hd
    rw [decode, decodeOperation_of_decode hd] at hd
    exact (checkOperands_ok hd).2

theorem obtainBytes_role (s : State) : s.obtainBytes.role = s.role := by
  obtain ⟨p, -, heq⟩ | ⟨-, heq⟩ := obtainBytes_cases s <;> simp [heq, State.callProvider]

namespace State.Inv

theorem emit (h : s.Inv) (op : Op) : (s.emit op).Inv := { h with }

theorem answer (h : s.Inv) (b : Bool) : (s.answer b).Inv := { h with }

theorem readData (h : s.Inv) : s.readData.Inv := { h with }

theorem writeData (h : s.Inv) (b : Byte) : (s.writeData b).Inv := { h with }

theorem sendAddress (h : s.Inv) (dir : BitVec 1) : (s.sendAddress dir).Inv := { h with }

theorem recordError (h : s.Inv) (e : ErrorCode) : (s.recordError e).Inv := { h with }

theorem endStep (h : s.Inv) : s.endStep.Inv := { h with }

theorem beginStep (h : s.Inv) (p : Packet) (rest : List Packet) : (s.beginStep p rest).Inv := by
  cases p <;> exact { h with }

/-- In Idle no store is selected, so that nothing has to be covered. -/
theorem terminate (h : s.Inv) : s.terminate.Inv :=
  { h with mb_covers := nofun, rx_length := nofun, rxb_covers := nofun, txb_covers := nofun }

theorem takeError (h : s.Inv) (e : ErrorCode) (op : Op) : (s.takeError e op).Inv :=
  ((h.recordError e).emit op).terminate

/-- R16: every increment of the cursor is guarded; outside SlaveReceive nothing else depends on it. -/
theorem advance (h : s.Inv) (hlt : s.cursor < s.length) (hr : s.role ≠ .slaveReceive) :
    s.advance.Inv :=
  { h with cursor_le := hlt, rxb_covers := fun hrole => absurd hrole hr }

theorem storeByte_mb (h : s.Inv) (k : Nat) (b : Byte) : (s.storeByte .mb k b).Inv :=
  { h with
    mb_wf := Memory.wf_write h.mb_wf k b
    mb_covers := fun hb => Memory.covers_write (h.mb_covers hb) k b }

theorem reply (h : s.Inv) : s.reply.Inv := by
  obtain ⟨-, heq⟩ | ⟨-, heq⟩ | ⟨-, heq⟩ := reply_cases s <;> rw [heq]
  · exact h.emit _
  · exact h.emit _
  · exact (h.emit _).terminate

theorem receive (h : s.Inv) (hr : s.role ≠ .slaveReceive) : s.receive.Inv := by
  obtain ⟨hlt, heq⟩ | ⟨-, heq⟩ := receive_cases s <;> rw [heq]
  · exact (h.readData.storeByte_mb ..).advance hlt hr
  · exact h.readData

/-- R112: storing at the cursor makes the covered part of RXB one byte longer. -/
theorem receiveSlave (h : s.Inv) (hr : s.role = .slaveReceive) : s.receiveSlave.Inv := by
  by_cases hlt : s.cursor < s.rxCapacity
  · rw [receiveSlave_of_room hlt]
    exact { h with
      cursor_le := (h.rx_length hr).symm ▸ hlt
      rxb_wf := Memory.wf_write h.rxb_wf _ _
      rxb_covers := fun _ => Memory.covers_write_next (h.rxb_covers hr) _ }
  · rw [receiveSlave_of_full (not_lt.mp hlt)]
    exact { h with }

theorem sendNext (h : s.Inv) (hr : s.role ≠ .slaveReceive) : NextSatisfies State.Inv s.sendNext := by
  refine nextSatisfies_iff.mpr fun t ht => ?_
  obtain ⟨hlt, b, -, rfl⟩ | ⟨-, rfl⟩ := sendNext_eq_next.mp ht
  · exact ((h.advance hlt hr).writeData b).emit _
  · exact (h.emit _).terminate

theorem sendSlave (h : s.Inv) (hr : s.role ≠ .slaveReceive) : NextSatisfies State.Inv s.sendSlave := by
  refine nextSatisfies_iff.mpr fun t ht => ?_
  obtain ⟨hlt, b, -, rfl⟩ | ⟨-, rfl⟩ := sendSlave_eq_next.mp ht
  · exact ((h.advance hlt hr).writeData b).emit _
  · exact h.emit _

/-- R110, R111: a slave-receive transaction starts with nothing stored and the size of RXB as its length. -/
theorem triggerReceive (h : s.Inv) : s.triggerReceive.Inv :=
  { h with
    cursor_le := Nat.zero_le _
    length_le := h.capacity_le.trans h.caps
    mb_covers := nofun
    rx_length := fun _ => rfl
    rxb_covers := fun _ => Memory.covers_zero _
    txb_covers := nofun }

/-- R121, decision D15: the answer taken is no longer than TXB and than the registered maximum. -/
theorem triggerTransmit_obtainBytes (h : s.Inv) : s.triggerTransmit.obtainBytes.Inv := by
  cases hp : s.txProvider with
  | none =>
    rw [obtainBytes_of_no_provider (s := s.triggerTransmit) hp]
    exact { h with
      cursor_le := Nat.zero_le _
      length_le := Nat.zero_le _
      txb_wf := .nil
      mb_covers := nofun
      rx_length := nofun
      rxb_covers := nofun
      txb_covers := fun _ => Memory.covers_zero _ }
  | some p =>
    rw [obtainBytes_of_provider (s := s.triggerTransmit) hp]
    exact { h with
      cursor_le := Nat.zero_le _
      length_le := (Nat.min_le_right ..).trans h.maxTx_le
      txb_wf := Memory.wf_ofBytes _
      mb_covers := nofun
      rx_length := nofun
      rxb_covers := nofun
      txb_covers := fun _ => Memory.covers_ofBytes (Nat.min_le_left ..) }

theorem idleStSlaAck (h : s.Inv) : NextSatisfies State.Inv (execIdleStSlaAck s) := by
  refine h.triggerTransmit_obtainBytes.sendSlave ?_
  rw [obtainBytes_role]
  nofun

theorem stDataAck (h : s.Inv) (hr : s.role ≠ .slaveReceive) :
    NextSatisfies State.Inv (execStDataAck s) := by
  unfold execStDataAck
  split
  · exact h.sendSlave hr
  · exact (h.emit _).terminate

/-- R117: both branches of `SR.STOP` write the role and the output list only. -/
theorem srStop (h : s.Inv) : NextSatisfies State.Inv (execSrStop s) := by
  refine nextSatisfies_iff.mpr fun t ht => ?_
  obtain ⟨ops, rfl⟩ := execSrStop_eq_next ht
  exact { h.terminate with }

/-- R81, decision D20: an accepted `INIT` has checked the ranges. -/
theorem init (h : s.Inv) {mode : Mode} {clock cap : Nat} {own : BusAddress} {pullup : Bool} :
    NextSatisfies State.Inv (execInit mode clock own cap pullup s) := by
  refine nextSatisfies_iff.mpr fun t ht => ?_
  obtain ⟨hacc, rfl⟩ | ⟨-, rfl⟩ := execInit_eq_next.mp ht
  · obtain ⟨⟨-, hcap⟩, hmode⟩ := acceptsInit_iff.mp hacc
    exact { h with
      cursor_le := le_rfl
      length_le := Nat.zero_le _
      capacity_le := hcap
      clock_le := fun hm => hmode.resolve_left (ne_of_eq_of_ne (show mode = .master from hm) nofun)
      mb_covers := nofun
      rx_length := nofun
      rxb_covers := nofun
      txb_covers := nofun }
  · exact h

/-- R83, R84: a transaction in a master role with a well-formed buffer. -/
theorem startTransaction (h : s.Inv) {role : Role} {address : BusAddress} {bytes : List Byte}
    {length : Nat} (hr : role = .masterTransmit ∨ role = .masterReceive)
    (hmax : length ≤ s.config.cntMax) (hlen : length ≤ bytes.length) :
    (s.startTransaction role address (Memory.ofBytes bytes) length).Inv := by
  obtain rfl | rfl := hr <;> exact { h with
    cursor_le := Nat.zero_le _
    length_le := hmax
    mb_wf := Memory.wf_ofBytes _
    mb_covers := fun _ => Memory.covers_ofBytes hlen
    rx_length := nofun
    rxb_covers := nofun
    txb_covers := nofun }

/-- Every instruction keeps the invariant, in the role that selects it and with well-formed operands. -/
theorem of_exec (h : s.Inv) {i : Instr} (hr : ∀ r, handlerRole i = some r → s.role = r)
    (hw : wellFormed s.config i = true) : NextSatisfies State.Inv (exec i s) := by
  have hne {r : Role} (hi : handlerRole i = some r) (hrx : r ≠ .slaveReceive) : s.role ≠ .slaveReceive :=
    (hr r hi).symm ▸ hrx
  cases i with
  | anyBusError | anyArbLost | mtSlaNack | mtDataNack => exact h.takeError _ _
  | anyNoInfo => exact h.terminate
  | idleSrSlaAck | idleSrGcallAck => exact h.triggerReceive
  | idleStSlaAck => exact h.idleStSlaAck
  | mtStart | mtRepStart | mrStart | mrRepStart => exact h.sendAddress _
  | mtSlaAck | mtDataAck => exact h.sendNext (hne rfl nofun)
  | mrSlaAck => exact h.reply
  | mrSlaNack =>
    rw [exec_mrSlaNack]
    exact h.takeError _ _
  | mrDataAck => exact (h.receive (hne rfl nofun)).reply
  | mrDataNack => exact ((h.receive (hne rfl nofun)).emit _).terminate
  | srDataAck | srDataNack | srGcallDataAck | srGcallDataNack => exact h.receiveSlave (hr _ rfl)
  | srStop => exact h.srStop
  | stDataAck => exact h.stDataAck (hne rfl nofun)
  | stDataNack | stLastData => exact (h.emit _).terminate
  | init => exact h.init
  | disable => exact { (h.emit .disableBc).terminate with }
  | sendTo address data n =>
    show NextSatisfies _ (execSendTo ..)
    simp only [wellFormed, Bool.and_eq_true, decide_eq_true_eq] at hw
    unfold execSendTo
    split
    · exact h.startTransaction (.inl rfl) hw.1 (by simp [hw.2])
    · exact h.answer _
  | readFrom address buffer n =>
    show NextSatisfies _ (execReadFrom ..)
    simp only [wellFormed, Bool.and_eq_true, decide_eq_true_eq] at hw
    unfold execReadFrom
    split
    · exact h.startTransaction (.inr rfl) hw.1 hw.2
    · exact h.answer _
  | setRxHandler f =>
    show NextSatisfies _ (execSetRxHandler ..)
    unfold execSetRxHandler
    split
    · exact { h with }
    · exact h
  | setTxProvider p maxLength =>
    show NextSatisfies _ (execSetTxProvider ..)
    unfold execSetTxProvider
    split
    · exact { h with maxTx_le := of_decide_eq_true hw }
    · exact h
  | opNone => exact h
  | opWrData b => exact h.writeData b
  | opRdData => exact h.readData
  | opStart | opStop | opNextAck | opNextNack | opRelease | opEnable | opDisableBc | opSetOwnAddr _
    | opSetClockDiv _ | opCallRx _ _ _ | opCallTx _ => exact h.emit _

/-- A step keeps the invariant. -/
theorem of_step (h : s.Inv) (hs : step s = .next t) : t.Inv := by
  obtain ⟨-, rfl⟩ | ⟨p, rest, i, u, -, hd, hu, rfl⟩ := step_eq_next.mp hs
  · exact h
  · have hr (r : Role) (hi : handlerRole i = some r) : (s.beginStep p rest).role = r := by
      rw [State.beginStep_role]
      exact role_of_decoded hd hi
    have hw : wellFormed (s.beginStep p rest).config i = true := by
      rw [State.beginStep_config]
      exact wellFormed_of_decoded hd
    exact (nextSatisfies_iff.mp ((h.beginStep p rest).of_exec hr hw) u hu).endStep

end State.Inv

/-- Settles O10: every step keeps each of the thirteen clauses. -/
theorem stepKeepsInvariant : Obligations.StepKeepsInvariant := fun _ _ h hs => h.of_step hs

end Sys2Proof.Machine
end

section
/-! PROOF. R14, R15, R28, R41 to R43: what a step from a state that meets the invariant does. -/

namespace Sys2Proof.Machine

variable {s t : State}

/-! ### Every decoded input completes -/

/-- R41: while bytes remain, MB holds the one at the cursor. -/
theorem sendNext_completes (h : s.Inv) (hr : s.role = .masterTransmit) : ∃ t, s.sendNext = .next t := by
  by_cases hlt : s.cursor < s.length
  · have hcov : s.mb.covers s.length := h.mb_covers (by simp [State.borrowed, hr])
    obtain ⟨b, hb⟩ := Option.isSome_iff_exists.mp (hcov s.cursor hlt)
    exact ⟨_, sendNext_of_byte hlt hb⟩
  · exact ⟨_, sendNext_of_length_le (not_lt.mp hlt)⟩

/-- R43: while bytes remain, TXB holds the one at the cursor. -/
theorem sendSlave_completes (h : s.Inv) (hr : s.role = .slaveTransmit) :
    ∃ t, s.sendSlave = .next t := by
  by_cases hlt : s.cursor < s.length
  · obtain ⟨b, hb⟩ := Option.isSome_iff_exists.mp (h.txb_covers hr s.cursor hlt)
    exact ⟨_, sendSlave_of_byte hlt hb⟩
  · exact ⟨_, sendSlave_of_length_le (not_lt.mp hlt)⟩

/-- R42: `SR.STOP` finds all the bytes that the transaction stored. -/
theorem srStop_completes (h : s.Inv) (hr : s.role = .slaveReceive) : ∃ t, exec .srStop s = .next t := by
  cases hf : s.rxHandlerActive with
  | none => exact ⟨_, exec_srStop_of_no_handler hf⟩
  | some f =>
    obtain ⟨bytes, hbytes, -⟩ := Memory.bytes_of_covers (h.rxb_covers hr)
    exact ⟨_, exec_srStop_of_handler hf hbytes⟩

/-- No access to a store is out of range: an instruction goes on in the role that selects it. -/
theorem exec_completes (h : s.Inv) {i : Instr} (hr : ∀ r, handlerRole i = some r → s.role = r) :
    ∃ t, exec i s = .next t := by
  cases hsend : sendsByte i with
  | false =>
    by_cases hstop : i = .srStop
    · subst hstop
      exact srStop_completes h (hr _ rfl)
    · exact exec_goes_on hsend hstop s
  | true =>
    cases i with
    | mtSlaAck | mtDataAck => exact sendNext_completes h (hr _ rfl)
    | idleStSlaAck =>
      exact sendSlave_completes h.triggerTransmit_obtainBytes (obtainBytes_role _)
    | stDataAck =>
      by_cases hlt : s.cursor < s.length
      · rw [exec_stDataAck_of_lt hlt]
        exact sendSlave_completes h (hr _ rfl)
      · exact ⟨_, exec_stDataAck_of_length_le (not_lt.mp hlt)⟩
    | _ => cases hsend

/-- The role in which a step runs the instruction it decoded (R64, R65). -/
theorem beginStep_role_of_decoded {p : Packet} {rest : List Packet} {i : Instr}
    (hd : decoded s p rest = .ok i) (r : Role) (hi : handlerRole i = some r) :
    (s.beginStep p rest).role = r :=
  (State.beginStep_role ..).trans (role_of_decoded hd hi)

/-- Settles O13: in a state that meets the invariant each instruction finds the bytes it needs, so that
a fault is an undefined dispatch; a refusal is never of an interrupt. -/
theorem everyDecodedInputCompletes : Obligations.EveryDecodedInputCompletes := by
  refine ⟨fun s p rest i h hin hd => ?_, fun s f h hs => ?_, fun s r hs => step_eq_refused hs⟩
  · obtain ⟨t, ht⟩ := exec_completes (h.beginStep p rest) (beginStep_role_of_decoded hd)
    exact ⟨t.endStep, by rw [step_ok hin hd, ht, leave]⟩
  · obtain ⟨c, b, tx, rest, r, hin, -, hf⟩ | ⟨p, rest, i, hin, hd, hx⟩ := step_eq_fault hs
    · exact ⟨c, b, tx, rest, hin, hf⟩
    · obtain ⟨t, ht⟩ := exec_completes (h.beginStep p rest) (beginStep_role_of_decoded hd)
      cases ht.symm.trans hx

/-! ### Cursor and length -/

/-- Settles O16: the values are those of the equation of what an instruction writes, and the range is the
invariant's. -/
theorem cursorAndLengthWriters : Obligations.CursorAndLengthWriters := by
  intro s t p rest i h hin hd hs
  have ht : t.Inv := h.of_step hs
  obtain ⟨u, hu, rfl⟩ := exec_of_step hin hd hs
  exact ⟨congrArg State.cursor (exec_eq_after hu), congrArg State.length (exec_eq_after hu),
    ht.cursor_le.trans ht.length_le, ht.length_le⟩

/-! ### The role graph -/

theorem sendNext_role (hr : s.role = .masterTransmit) (h : s.sendNext = .next t) :
    t.role = if s.cursor < s.length then .masterTransmit else .idle := by
  obtain ⟨hlt, b, -, rfl⟩ | ⟨hge, rfl⟩ := sendNext_eq_next.mp h
  · rw [if_pos hlt]
    exact hr
  · rw [if_neg hge]
    rfl

theorem sendSlave_role (h : s.sendSlave = .next t) : t.role = s.role := by
  obtain ⟨-, b, -, rfl⟩ | ⟨-, rfl⟩ := sendSlave_eq_next.mp h <;> rfl

/-- R102: the look-ahead policy ends the transaction when no byte remains. -/
theorem reply_role (s : State) : s.reply.role = if s.cursor < s.length then s.role else .idle := by
  obtain ⟨hmore, heq⟩ | ⟨hone, heq⟩ | ⟨hnone, heq⟩ := reply_cases s <;> rw [heq]
  · exact (if_pos (by omega)).symm
  · exact (if_pos (by omega)).symm
  · exact (if_neg (by omega)).symm

/-- R104: the policy is applied to the cursor after the store. -/
theorem receive_reply_role (s : State) :
    s.receive.reply.role = if s.cursor + 1 < s.length then s.role else .idle := by
  rw [reply_role]
  by_cases hlt : s.cursor < s.length
  · rw [receive_of_room hlt]
  · rw [receive_of_length_le (not_lt.mp hlt), if_neg hlt, if_neg (by omega)]

theorem receiveSlave_role (s : State) : s.receiveSlave.role = s.role := by
  obtain ⟨-, heq⟩ | ⟨-, heq⟩ := receiveSlave_cases s <;> simp [heq]

theorem stDataAck_role (hr : s.role = .slaveTransmit) (h : exec .stDataAck s = .next t) :
    t.role = roleAfter .stDataAck s := by
  by_cases hlt : s.cursor < s.length
  · rw [exec_stDataAck_of_lt hlt] at h
    rw [roleAfter, if_pos hlt, sendSlave_role h, hr]
  · rw [exec_stDataAck_of_length_le (not_lt.mp hlt)] at h
    cases h
    rw [roleAfter, if_neg hlt]

theorem exec_role_of_isCommand {i : Instr} (hi : isCommand i = true) (h : exec i s = .next t) :
    t.role = roleAfter i s := by
  obtain ⟨u, hu, hrole⟩ := exec_eq_next_of_isCommand hi s
  cases hu.symm.trans h
  exact hrole

/-- R28: the role after an instruction, in the role that selects it. -/
theorem exec_role {i : Instr} (hr : ∀ r, handlerRole i = some r → s.role = r)
    (h : exec i s = .next t) : t.role = roleAfter i s := by
  cases i with
  | mtSlaAck | mtDataAck => exact sendNext_role (hr _ rfl) h
  | mrSlaAck =>
    cases h
    rw [reply_role, hr _ rfl, roleAfter]
  | mrDataAck =>
    cases h
    rw [receive_reply_role, hr _ rfl, roleAfter]
  | mrSlaNack =>
    cases (exec_mrSlaNack s).symm.trans h
    rfl
  | srDataAck | srDataNack | srGcallDataAck | srGcallDataNack =>
    cases h
    rw [receiveSlave_role, hr _ rfl, roleAfter]
  | srStop =>
    obtain ⟨ops, rfl⟩ := execSrStop_eq_next h
    rfl
  | idleStSlaAck => exact (sendSlave_role h).trans (obtainBytes_role _)
  | stDataAck => exact stDataAck_role (hr _ rfl) h
  | mtStart | mtRepStart | mrStart | mrRepStart =>
    cases h
    exact hr _ rfl
  | init | disable | sendTo | readFrom | setRxHandler | setTxProvider =>
    exact exec_role_of_isCommand rfl h
  | anyBusError | anyArbLost | anyNoInfo | idleSrSlaAck | idleSrGcallAck | mtSlaNack | mtDataNack
    | mrDataNack | stDataNack | stLastData =>
    cases h
    rfl
  | opNone | opStart | opStop | opNextAck | opNextNack | opRelease | opWrData | opRdData | opEnable
    | opDisableBc | opSetOwnAddr | opSetClockDiv | opCallRx | opCallTx =>
    cases h
    rfl

/-- R28: the table has no edge between two different non-Idle roles. -/
theorem roleAfter_cases {i : Instr} (hr : ∀ r, handlerRole i = some r → s.role = r) :
    s.role = .idle ∨ roleAfter i s = .idle ∨ s.role = roleAfter i s := by
  cases i with
  | idleSrSlaAck | idleSrGcallAck | idleStSlaAck => exact .inl (hr _ rfl)
  | mtStart | mtRepStart | mrStart | mrRepStart | srDataAck | srDataNack | srGcallDataAck
    | srGcallDataNack => exact .inr (.inr (hr _ rfl))
  | mtSlaAck | mtDataAck | mrSlaAck | mrDataAck | stDataAck =>
    rw [roleAfter, ← hr _ rfl]
    split <;> simp
  | sendTo | readFrom =>
    rw [roleAfter]
    split
    case isTrue hacc => exact .inl (acceptsTransaction_iff.mp hacc).2
    case isFalse => exact .inr (.inr rfl)
  | anyBusError | anyArbLost | anyNoInfo | mtSlaNack | mtDataNack | mrDataNack | mrSlaNack | srStop
    | stDataNack | stLastData | disable => exact .inr (.inl rfl)
  | _ => exact .inr (.inr rfl)

/-- Entering a step changes nothing that the role graph looks at. -/
theorem roleAfter_beginStep (i : Instr) (p : Packet) (rest : List Packet) (s : State) :
    roleAfter i (s.beginStep p rest) = roleAfter i s := by
  cases p <;> rfl

/-- Settles O14: the role is the table's, and the table's edges all touch Idle. -/
theorem roleFollowsTheGraph : Obligations.RoleFollowsTheGraph := by
  intro s t p rest i hin hd hs
  obtain ⟨u, hu, rfl⟩ := exec_of_step hin hd hs
  have hrole : u.endStep.role = roleAfter i s :=
    (exec_role (beginStep_role_of_decoded hd) hu).trans (roleAfter_beginStep i p rest s)
  refine ⟨hrole, ?_⟩
  have hcases := roleAfter_cases (s := s) fun r => role_of_decoded (r := r) hd
  rw [← hrole] at hcases
  simpa only [roleEdge, Bool.or_eq_true, decide_eq_true_eq, or_assoc] using hcases

end Sys2Proof.Machine
end

section
/-! PROOF. R143, R155: the list of a bus-phase interrupt is a short preamble and one control operation. -/

namespace Sys2Proof.Machine

variable {s t : State}

/-- The dispatches that can emit `STOP` (R143). -/
def stopsBus (i : Instr) : Bool :=
  i ∈ [.mtSlaAck, .mtDataAck, .mtSlaNack, .mtDataNack, .mrSlaAck, .mrDataAck, .mrDataNack, .mrSlaNack,
    Instr.anyBusError]

/-- R155: what a list can hold in front of its control operation. -/
inductive Preamble : List Op → Prop where
  | nothing : Preamble []
  | written (b : Byte) : Preamble [.wrData b]
  | read : Preamble [.rdData]
  | asked (p : CallbackId) : Preamble [.callTx p]
  | askedAndWritten (p : CallbackId) (b : Byte) : Preamble [.callTx p, .wrData b]
  | handedOver (h : CallbackId) (bytes : List Byte) (n : Nat) : Preamble [.callRx h bytes n]

theorem Preamble.counts {l : List Op} (h : Preamble l) :
    l.countP isDataAccess ≤ 1 ∧ l.countP isCallback ≤ 1 ∧ l.countP isControl = 0 := by
  cases h <;> simp [List.countP_cons, isDataAccess, isCallback, isControl]

/-- A list of R155 for the dispatch `i`: a preamble, and a control operation that is `STOP` only where the
table has one. -/
def RepliesLast (i : Instr) (l : List Op) : Prop :=
  ∃ pre op, l = pre ++ [op] ∧ Preamble pre ∧ isControl op = true ∧ (op = .stop → stopsBus i = true)

theorem repliesLast_of_listWrAck {i : Instr} {l : List Op} (h : listWrAck l = true) :
    RepliesLast i l := by
  obtain ⟨b, rfl⟩ := listWrAck_iff.mp h
  exact ⟨[.wrData b], .nextAck, rfl, .written b, rfl, nofun⟩

theorem repliesLast_of_listWrNack {i : Instr} {l : List Op} (h : listWrNack l = true) :
    RepliesLast i l := by
  obtain ⟨b, rfl⟩ := listWrNack_iff.mp h
  exact ⟨[.wrData b], .nextNack, rfl, .written b, rfl, nofun⟩

/-- R121: the lists of the slave-transmit trigger. -/
theorem repliesLast_of_idleStSlaAck {l : List Op} (h : producible .idleStSlaAck l = true) :
    RepliesLast .idleStSlaAck l := by
  simp only [producible, Bool.or_eq_true, beq_iff_eq, listCallTx_iff, listWrAck_iff,
    listWrNack_iff] at h
  obtain ((⟨p, _, rfl, b, rfl⟩ | ⟨p, _, rfl, b, rfl⟩) | ⟨p, _, rfl, rfl⟩) | rfl := h
  · exact ⟨[.callTx p, .wrData b], .nextAck, rfl, .askedAndWritten p b, rfl, nofun⟩
  · exact ⟨[.callTx p, .wrData b], .nextNack, rfl, .askedAndWritten p b, rfl, nofun⟩
  · exact ⟨[.callTx p], .nextNack, rfl, .asked p, rfl, nofun⟩
  · exact ⟨[], .nextNack, rfl, .nothing, rfl, nofun⟩

/-- R155, decision D30: every dispatch but `ANY.NO_INFO` emits one control operation, and emits it last. -/
theorem repliesLast_of_producible {i : Instr} {l : List Op} (hi : isDispatch i = true)
    (hne : i ≠ .anyNoInfo) (h : producible i l = true) : RepliesLast i l := by
  cases i with
  | anyNoInfo => exact absurd rfl hne
  | mtStart | mtRepStart | mrStart | mrRepStart => exact repliesLast_of_listWrAck h
  | mtSlaAck | mtDataAck =>
    simp only [producible, Bool.or_eq_true, beq_iff_eq] at h
    obtain h | rfl := h
    · exact repliesLast_of_listWrAck h
    · exact ⟨[], .stop, rfl, .nothing, rfl, fun _ => rfl⟩
  | stDataAck =>
    simp only [producible, Bool.or_eq_true, beq_iff_eq] at h
    obtain (h | h) | rfl := h
    · exact repliesLast_of_listWrAck h
    · exact repliesLast_of_listWrNack h
    · exact ⟨[], .nextAck, rfl, .nothing, rfl, nofun⟩
  | idleStSlaAck => exact repliesLast_of_idleStSlaAck h
  | srStop =>
    simp only [producible, Bool.or_eq_true, beq_iff_eq, listCallRx_iff] at h
    obtain ⟨f, bytes, rfl⟩ | rfl := h
    · exact ⟨[.callRx f bytes bytes.length], .nextAck, rfl, .handedOver .., rfl, nofun⟩
    · exact ⟨[], .nextAck, rfl, .nothing, rfl, nofun⟩
  | mrSlaAck =>
    simp only [producible, Bool.or_eq_true, beq_iff_eq] at h
    obtain (rfl | rfl) | rfl := h <;> exact ⟨[], _, rfl, .nothing, rfl, fun _ => rfl⟩
  | mrDataAck =>
    simp only [producible, Bool.or_eq_true, beq_iff_eq] at h
    obtain (rfl | rfl) | rfl := h <;> exact ⟨[.rdData], _, rfl, .read, rfl, fun _ => rfl⟩
  | srDataAck | srDataNack | srGcallDataAck | srGcallDataNack =>
    simp only [producible, Bool.or_eq_true, beq_iff_eq] at h
    obtain rfl | rfl := h <;> exact ⟨[.rdData], _, rfl, .read, rfl, nofun⟩
  | mrDataNack =>
    obtain rfl := eq_of_beq h
    exact ⟨[.rdData], .stop, rfl, .read, rfl, fun _ => rfl⟩
  | anyBusError | mtSlaNack | mtDataNack | mrSlaNack =>
    obtain rfl := eq_of_beq h
    exact ⟨[], .stop, rfl, .nothing, rfl, fun _ => rfl⟩
  | anyArbLost | idleSrSlaAck | idleSrGcallAck | stDataNack | stLastData =>
    obtain rfl := eq_of_beq h
    exact ⟨[], _, rfl, .nothing, rfl, nofun⟩
  | init | disable | sendTo | readFrom | setRxHandler | setTxProvider => cases hi
  | opNone | opStart | opStop | opNextAck | opNextNack | opRelease | opWrData | opRdData | opEnable
    | opDisableBc | opSetOwnAddr | opSetClockDiv | opCallRx | opCallTx => cases hi

theorem not_isDataAccess_of_isControl {op : Op} (h : isControl op = true) :
    isDataAccess op = false ∧ isCallback op = false := by
  cases op with
  | stop | nextAck | nextNack | release => exact ⟨rfl, rfl⟩
  | _ => cases h

/-- Settles O25: the preamble has at most one access and one callback, and the control operation after it
is neither. -/
theorem interruptListsEndInOneControlOperation : Obligations.InterruptListsEndInOneControlOperation := by
  intro s t c b tx rest i hin hd hs
  have hl : producible i t.out = true := producible_step hin hd hs
  by_cases hne : i = .anyNoInfo
  · subst hne
    have hout : t.out = [] := eq_of_beq hl
    simp [hout]
  · obtain ⟨pre, op, hout, hpre, hop, -⟩ := repliesLast_of_producible (isDispatch_of_decoded hd) hne hl
    obtain ⟨haccess, hcall, hcontrol⟩ := hpre.counts
    obtain ⟨hopAccess, hopCall⟩ := not_isDataAccess_of_isControl hop
    refine ⟨?_, ?_, fun h => absurd h hne, fun _ => ⟨?_, pre, op, hout, hop⟩⟩
    · simpa [hout, hopAccess] using haccess
    · simpa [hout, hopCall] using hcall
    · simp [hout, hop, hcontrol]

/-! ### `STOP` -/

/-- R155: no command emits `STOP`. -/
theorem stop_notMem_of_isCommand {i : Instr} {l : List Op} (hi : isCommand i = true)
    (h : producible i l = true) : .stop ∉ l := by
  cases i with
  | init mode =>
    cases mode <;> simp only [producible, Bool.or_eq_true, beq_iff_eq] at h <;>
      obtain rfl | rfl := h <;> simp
  | sendTo | readFrom =>
    simp only [producible, Bool.or_eq_true, beq_iff_eq] at h
    obtain rfl | rfl := h <;> simp
  | disable | setRxHandler | setTxProvider =>
    obtain rfl := eq_of_beq h
    simp
  | _ => cases hi

/-- A list with a preamble has `STOP` in it once, last, if at all. -/
theorem stop_of_repliesLast {i : Instr} {l : List Op} (h : RepliesLast i l) (hm : .stop ∈ l) :
    l.count .stop = 1 ∧ stopsBus i = true := by
  obtain ⟨pre, op, rfl, hpre, -, hstop⟩ := h
  have hnot : .stop ∉ pre := by cases hpre <;> simp
  have hop : op = .stop := by simpa [hnot, eq_comm] using hm
  exact ⟨by simp [hop, List.count_eq_zero.mpr hnot], hstop hop⟩

/-- R102: the look-ahead policy stops together with the terminal edge. -/
theorem reply_role_of_stop (hs : .stop ∉ s.out) (hm : .stop ∈ s.reply.out) : s.reply.role = .idle := by
  obtain ⟨-, heq⟩ | ⟨-, heq⟩ | ⟨-, heq⟩ := reply_cases s <;> rw [heq] at hm ⊢
  · simp [hs] at hm
  · simp [hs] at hm
  · rfl

/-- R92, R93: so does the byte-acknowledged event. -/
theorem sendNext_role_of_stop (h : s.sendNext = .next t) (hs : .stop ∉ s.out) (hm : .stop ∈ t.out) :
    t.role = .idle := by
  obtain ⟨-, b, -, rfl⟩ | ⟨-, rfl⟩ := sendNext_eq_next.mp h
  · simp [hs] at hm
  · rfl

/-- R143: `STOP` is emitted together with `role <- Idle`. -/
theorem role_of_stop {i : Instr} (hi : stopsBus i = true) (h : exec i s = .next t) (hs : .stop ∉ s.out)
    (hm : .stop ∈ t.out) : t.role = .idle := by
  cases i with
  | mtSlaAck | mtDataAck => exact sendNext_role_of_stop h hs hm
  | mrSlaAck =>
    cases h
    exact reply_role_of_stop hs hm
  | mrDataAck =>
    cases h
    exact reply_role_of_stop (by simp [hs]) hm
  | mrSlaNack =>
    cases (exec_mrSlaNack s).symm.trans h
    rfl
  | mtSlaNack | mtDataNack | mrDataNack | anyBusError =>
    cases h
    rfl
  | _ => cases hi

/-- In Idle a bus error alone stops the bus; the others belong to a master role. -/
theorem handlerRole_of_stopsBus {i : Instr} (hi : stopsBus i = true) :
    i = .anyBusError ∨ handlerRole i = some .masterTransmit ∨ handlerRole i = some .masterReceive := by
  cases i with
  | anyBusError => exact .inl rfl
  | mtSlaAck | mtDataAck | mtSlaNack | mtDataNack => exact .inr (.inl rfl)
  | mrSlaAck | mrDataAck | mrDataNack | mrSlaNack => exact .inr (.inr rfl)
  | _ => cases hi

/-- Settles O27: a command's list has no `STOP`; a dispatch that emits one ends it with that, in Idle, and
belongs to a master role but for the bus error. -/
theorem stopEndsAMasterTransaction : Obligations.StopEndsAMasterTransaction := by
  refine ⟨rfl, fun s t p rest i hin hp hd hs hm => ?_⟩
  have hl : producible i t.out = true := producible_step hin hd hs
  cases p with
  | operation => cases hp
  | command cop args => exact absurd hm (stop_notMem_of_isCommand (isCommand_of_decoded hd) hl)
  | interrupt c b tx =>
    have hne : i ≠ .anyNoInfo := by
      rintro rfl
      rw [eq_of_beq hl] at hm
      cases hm
    obtain ⟨hcount, hi⟩ :=
      stop_of_repliesLast (repliesLast_of_producible (isDispatch_of_decoded hd) hne hl) hm
    obtain ⟨u, hu, rfl⟩ := exec_of_step hin hd hs
    have hrole : u.role = .idle := role_of_stop hi hu (by simp) hm
    refine ⟨⟨c, b, tx, rfl⟩, hrole, hcount, of_decide_eq_true hi, fun hidle => ?_⟩
    obtain h | h | h := handlerRole_of_stopsBus hi
    · exact h
    · cases hidle.symm.trans (role_of_decoded hd h)
    · cases hidle.symm.trans (role_of_decoded hd h)

end Sys2Proof.Machine
end

section
/-! SUPPORT. Runs of several steps, with the operations they emit. -/

namespace Sys2Proof.Machine

variable {s t u : State}

/-- `n` steps lead from `s` to `t`, and their records have the operations `ops`. -/
def Runs (n : Nat) (s t : State) (ops : List Op) : Prop :=
  runSteps n s = .next t ∧ ∃ recs, t.history = s.history ++ recs ∧ recs.flatMap (·.ops) = ops

theorem runSteps_add {m : Nat} (h : runSteps m s = .next t) (n : Nat) :
    runSteps (m + n) s = runSteps n t := by
  induction m generalizing s with
  | zero =>
    cases h
    rw [Nat.zero_add]
  | succ m ih =>
    rw [Nat.succ_add]
    simp only [runSteps] at h ⊢
    split at h
    · exact ih h
    · cases h
    · cases h

namespace Runs

theorem zero (s : State) : Runs 0 s s [] := ⟨rfl, [], (List.append_nil _).symm, rfl⟩

theorem trans {m n : Nat} {a b : List Op} (hst : Runs m s t a) (htu : Runs n t u b) :
    Runs (m + n) s u (a ++ b) := by
  obtain ⟨hm, recs, hrecs, rfl⟩ := hst
  obtain ⟨hn, recs', hrecs', rfl⟩ := htu
  exact ⟨(runSteps_add hm n).trans hn, recs ++ recs', by rw [hrecs', hrecs, List.append_assoc],
    List.flatMap_append⟩

/-- The operations of a run are those since its beginning. -/
theorem opsSince {n : Nat} {ops : List Op} (h : Runs n s t ops) : opsSince s.history t = ops := by
  obtain ⟨-, recs, hrecs, rfl⟩ := h
  rw [Machine.opsSince, hrecs, List.drop_left]

/-- One step with a decoded input. -/
theorem single {p : Packet} {rest : List Packet} {i : Instr} (hin : s.inbox = p :: rest)
    (hd : decoded s p rest = .ok i) (hx : exec i (s.beginStep p rest) = .next u) :
    Runs 1 s u.endStep u.out := by
  refine ⟨?_, [⟨u.out, u.accepted⟩], ?_, by simp⟩
  · simp only [runSteps, step_ok hin hd, hx, leave]
  · have hhistory : u.history = s.history :=
      (congrArg State.history (exec_eq_after hx)).trans (State.beginStep_history ..)
    rw [State.endStep_history, hhistory]

/-- One step with an interrupt, decoded by the default table (R62). -/
theorem interrupt {c : BitVec 8} {b : Byte} {tx : List Byte} {rest : List Packet} {i : Instr} {r : Role}
    (htable : s.config.statusTable = standardStatusTable) (hr : s.role = r)
    (hin : s.inbox = .interrupt c b tx :: rest)
    (hi : decodeDispatch standardStatusTable (dispatchWord r.code c) = some i)
    (hx : exec i (s.beginStep (.interrupt c b tx) rest) = .next u) : Runs 1 s u.endStep u.out := by
  refine single hin ?_ hx
  rw [decoded_interrupt, decode_dispatch_eq_ok, htable, hr, hi]

end Runs

/-- The store holds `bytes` from index `k` on. -/
def Memory.HoldsFrom (m : Memory) (k : Nat) (bytes : List Byte) : Prop :=
  ∀ j, j < bytes.length → m.read (k + j) = bytes[j]?

theorem Memory.holdsFrom_ofBytes {bytes data : List Byte} (h : bytes <+: data) :
    (Memory.ofBytes data).HoldsFrom 0 bytes := by
  intro j hj
  obtain ⟨tail, rfl⟩ := h
  rw [Nat.zero_add, Memory.read_ofBytes, List.getElem?_append_left hj]

theorem Memory.HoldsFrom.head {m : Memory} {k : Nat} {b : Byte} {bytes : List Byte}
    (h : m.HoldsFrom k (b :: bytes)) : m.read k = some b :=
  h 0 (Nat.succ_pos _)

theorem Memory.HoldsFrom.tail {m : Memory} {k : Nat} {b : Byte} {bytes : List Byte}
    (h : m.HoldsFrom k (b :: bytes)) : m.HoldsFrom (k + 1) bytes := by
  intro j hj
  have hnext := h (j + 1) (Nat.succ_lt_succ hj)
  rwa [← Nat.add_assoc, Nat.add_right_comm] at hnext

end Sys2Proof.Machine
end

section
/-! SUPPORT. The start of a master transaction: the command and the START dispatch. -/

namespace Sys2Proof.Machine

variable {s t : State}

/-- The state after a transaction was accepted, with no byte moved yet and `inbox` to come. -/
structure Started (role : Role) (a : BusAddress) (buffer : Memory) (length : Nat) (inbox : List Packet)
    (s : State) : Prop where
  table : s.config.statusTable = standardStatusTable
  role : s.role = role
  lastError : s.lastError = .ok
  length : s.length = length
  cursor : s.cursor = 0
  mb : s.mb = buffer
  peerAddress : s.peerAddress = a
  inbox : s.inbox = inbox

/-- What the command leaves (R83, R84). -/
theorem started_startTransaction (htable : s.config.statusTable = standardStatusTable) (p : Packet)
    (rest : List Packet) (role : Role) (a : BusAddress) (buffer : Memory) (length : Nat) :
    Started role a buffer length rest
      ((s.beginStep p rest).startTransaction role a buffer length).endStep :=
  { table := by simp [State.startTransaction, htable]
    role := rfl
    lastError := rfl
    length := rfl
    cursor := rfl
    mb := rfl
    peerAddress := rfl
    inbox := by simp [State.startTransaction] }

/-- Entering a step does not change what a transaction is accepted on. -/
theorem beginStep_acceptsTransaction (p : Packet) (rest : List Packet) (s : State) :
    (s.beginStep p rest).acceptsTransaction = s.acceptsTransaction := by
  simp [State.acceptsTransaction]

theorem decoded_command (s : State) (cop : BitVec 3) (args : CommandArgs) (rest : List Packet) :
    decoded s (.command cop args) rest = decode s.config (.command cop args) := rfl

/-- R83: an accepted `SEND_TO` of all the caller's bytes. -/
theorem runs_sendTo {a : BusAddress} {data : List Byte} {rest : List Packet}
    (htable : s.config.statusTable = standardStatusTable) (hmax : data.length ≤ s.config.cntMax)
    (hacc : s.acceptsTransaction = true)
    (hin : s.inbox = .command 2 { address := a, bytes := data, length := data.length } :: rest) :
    ∃ t, Runs 1 s t [.start] ∧
      Started .masterTransmit a (Memory.ofBytes data) data.length rest t := by
  have hd := (decoded_command s _ _ rest).trans (decode_command_eq_ok
    (cop := 2) (args := { address := a, bytes := data, length := data.length }) rfl
    (by simp [wellFormed, hmax]))
  have hrun := Runs.single hin hd
    (exec_sendTo_of_accepts (by rwa [beginStep_acceptsTransaction]) a data data.length)
  simp only [State.startTransaction, State.answer_out, State.emit_out, State.beginStep_out,
    List.nil_append] at hrun
  rw [List.take_length] at hrun
  exact ⟨_, hrun, started_startTransaction htable ..⟩

/-- R84: an accepted `READ_FROM`. -/
theorem runs_readFrom {a : BusAddress} {buffer : List Byte} {n : Nat} {rest : List Packet}
    (htable : s.config.statusTable = standardStatusTable) (hmax : n ≤ s.config.cntMax)
    (hlen : n ≤ buffer.length) (hacc : s.acceptsTransaction = true)
    (hin : s.inbox = .command 3 { address := a, bytes := buffer, length := n } :: rest) :
    ∃ t, Runs 1 s t [.start] ∧ Started .masterReceive a (Memory.ofBytes buffer) n rest t := by
  have hd := (decoded_command s _ _ rest).trans (decode_command_eq_ok
    (cop := 3) (args := { address := a, bytes := buffer, length := n }) rfl
    (by simp [wellFormed, hmax, hlen]))
  have hrun := Runs.single hin hd
    (exec_readFrom_of_accepts (by rwa [beginStep_acceptsTransaction]) a buffer n)
  simp only [State.startTransaction, State.answer_out, State.emit_out, State.beginStep_out,
    List.nil_append] at hrun
  exact ⟨_, hrun, started_startTransaction htable ..⟩

/-- R90, R100: the START dispatch of the role sends the address byte and changes nothing else of the
transaction. -/
theorem Started.sendAddress {role : Role} {a : BusAddress} {buffer : Memory} {length : Nat}
    {inbox : List Packet} {dir : BitVec 1} {i : Instr}
    (h : Started role a buffer length (event 0x08 :: inbox) s)
    (hi : decodeDispatch standardStatusTable (dispatchWord role.code 0x08) = some i)
    (hx : ∀ u, exec i u = .next (u.sendAddress dir)) :
    ∃ t, Runs 1 s t [.wrData (addressByte a dir), .nextAck] ∧ Started role a buffer length inbox t := by
  have hrun := Runs.interrupt h.table h.role h.inbox hi (hx _)
  simp only [sendAddress_out, State.beginStep_out, List.nil_append, State.beginStep_peerAddress,
    h.peerAddress] at hrun
  refine ⟨_, hrun, ?_⟩
  exact
    { table := by simp [State.sendAddress, h.table]
      role := by simp [State.sendAddress, h.role]
      lastError := by simp [State.sendAddress, h.lastError]
      length := by simp [State.sendAddress, h.length]
      cursor := by simp [State.sendAddress, h.cursor]
      mb := by simp [State.sendAddress, h.mb]
      peerAddress := by simp [State.sendAddress, h.peerAddress]
      inbox := by simp [State.sendAddress] }

end Sys2Proof.Machine
end

section
/-! PROOF. R96: a whole send to a peer that acknowledges every phase. -/

namespace Sys2Proof.Machine

variable {s t : State}

/-- The state of a send in which `bytes` are still to go, `inbox` is to come, and the transaction moves
`total` bytes. -/
structure Sending (bytes : List Byte) (total : Nat) (inbox : List Packet) (s : State) : Prop where
  table : s.config.statusTable = standardStatusTable
  role : s.role = .masterTransmit
  lastError : s.lastError = .ok
  length : s.length = total
  cursor : s.cursor + bytes.length = total
  holds : s.mb.HoldsFrom s.cursor bytes
  inbox : s.inbox = inbox

/-- R62: the two status codes by which the peer acknowledges a byte of a send. -/
def SendAck (p : Packet) : Prop := p = event 0x18 ∨ p = event 0x28

/-- Either acknowledgement runs the byte-acknowledged event. -/
theorem runs_sendAck {p : Packet} {inbox : List Packet} {bytes : List Byte} {total : Nat}
    (h : Sending bytes total (p :: inbox) s) (hp : SendAck p)
    (hx : (s.beginStep p inbox).sendNext = .next t) : Runs 1 s t.endStep t.out := by
  obtain rfl | rfl := hp
  · exact .interrupt (i := .mtSlaAck) h.table h.role h.inbox (by decide) hx
  · exact .interrupt (i := .mtDataAck) h.table h.role h.inbox (by decide) hx

/-- R92, R93: one byte of a send. -/
theorem Sending.step {b : Byte} {bytes : List Byte} {total : Nat} {p : Packet} {inbox : List Packet}
    (h : Sending (b :: bytes) total (p :: inbox) s) (hp : SendAck p) :
    ∃ t, Runs 1 s t [.wrData b, .nextAck] ∧ Sending bytes total inbox t := by
  have hcursor : s.cursor + (bytes.length + 1) = total := h.cursor
  have hx : (s.beginStep p inbox).sendNext = _ :=
    sendNext_of_byte (b := b) (by simp [h.length]; omega) (by simpa using h.holds.head)
  have hrun := runs_sendAck h hp hx
  simp only [State.beginStep_out, List.nil_append] at hrun
  refine ⟨_, hrun, ?_⟩
  exact
    { table := by simp [h.table]
      role := by simp [h.role]
      lastError := by simp [h.lastError]
      length := by simp [h.length]
      cursor := by simp; omega
      holds := by simpa using h.holds.tail
      inbox := by simp }

/-- R92, R93: the end of a send. -/
theorem Sending.finish {total : Nat} {p : Packet} {inbox : List Packet}
    (h : Sending [] total (p :: inbox) s) (hp : SendAck p) :
    ∃ t, Runs 1 s t [.stop] ∧ t.role = .idle ∧ t.lastError = .ok ∧ t.cursor = total ∧
      t.length = total ∧ t.inbox = inbox := by
  have hcursor : s.cursor = total := h.cursor
  have hx : (s.beginStep p inbox).sendNext = _ := sendNext_of_length_le (by simp [h.length, hcursor])
  have hrun := runs_sendAck h hp hx
  simp only [State.beginStep_out, List.nil_append] at hrun
  exact ⟨_, hrun, by simp, by simp [h.lastError], by simp [hcursor], by simp [h.length], by simp⟩

/-- The bytes still to go are sent in order, each with `NEXT_ACK`, and one `STOP` follows. -/
theorem Sending.runs {bytes : List Byte} {total : Nat} {acks rest : List Packet}
    (h : Sending bytes total (acks ++ rest) s) (hacks : ∀ p ∈ acks, SendAck p)
    (hlen : acks.length = bytes.length + 1) :
    ∃ t, Runs (bytes.length + 1) s t (bytes.flatMap (fun b => [.wrData b, .nextAck]) ++ [.stop]) ∧
      t.role = .idle ∧ t.lastError = .ok ∧ t.cursor = total ∧ t.length = total ∧ t.inbox = rest := by
  induction bytes generalizing s acks with
  | nil =>
    obtain ⟨p, rfl⟩ := List.length_eq_one_iff.mp hlen
    exact h.finish (hacks p List.mem_cons_self)
  | cons b bytes ih =>
    obtain ⟨p, acks, rfl⟩ := List.exists_cons_of_length_eq_add_one hlen
    obtain ⟨t, hst, ht⟩ := h.step (hacks p List.mem_cons_self)
    obtain ⟨u, htu, hu⟩ := ih ht (fun q hq => hacks q (List.mem_cons_of_mem _ hq)) (Nat.succ.inj hlen)
    refine ⟨u, ?_, hu⟩
    have hrun := hst.trans htu
    rwa [Nat.add_comm] at hrun

/-- After its start a send has all its bytes to go. -/
theorem Started.sending {a : BusAddress} {data : List Byte} {inbox : List Packet}
    (h : Started .masterTransmit a (Memory.ofBytes data) data.length inbox s) :
    Sending data data.length inbox s :=
  { table := h.table
    role := h.role
    lastError := h.lastError
    length := h.length
    cursor := by rw [h.cursor, Nat.zero_add]
    holds := by rw [h.mb, h.cursor]; exact Memory.holdsFrom_ofBytes (List.prefix_refl data)
    inbox := h.inbox }

/-- Settles O57: the command, the START dispatch, and one acknowledgement for the address and for each
byte. -/
theorem sendTransactionSendsEveryByteInOrder : Obligations.SendTransactionSendsEveryByteInOrder := by
  intro s a data rest htable hmax hen hmode hrole hin
  have hacc : s.acceptsTransaction = true := acceptsTransaction_iff.mpr ⟨⟨hen, hmode⟩, hrole⟩
  obtain ⟨t, hst, ht⟩ := runs_sendTo htable hmax hacc hin
  obtain ⟨u, htu, hu⟩ := ht.sendAddress (i := .mtStart) (dir := 0) (by decide) fun _ => rfl
  have hacks : ∀ p ∈ event 0x18 :: List.replicate data.length (event 0x28), SendAck p := by
    intro p hp
    obtain rfl | hp := List.mem_cons.mp hp
    · exact .inl rfl
    · exact .inr (List.eq_of_mem_replicate hp)
  obtain ⟨v, huv, hidle, herror, hcursor, hlength, hinbox⟩ :=
    Sending.runs (acks := event 0x18 :: List.replicate data.length (event 0x28)) hu.sending hacks
      (by simp)
  have hrun := (hst.trans htu).trans huv
  rw [show 1 + 1 + (data.length + 1) = data.length + 3 by omega] at hrun
  exact ⟨v, hrun.1, hrun.opsSince.trans (by simp), hidle, herror, hcursor, hlength, hinbox⟩

end Sys2Proof.Machine
end

section
/-! PROOF. R107: a whole read of at least one byte. -/

namespace Sys2Proof.Machine

variable {s t : State}

/-- The state of a read of `total` bytes in which `stored` have arrived and `inbox` is to come. -/
structure Receiving (stored : List Byte) (total : Nat) (inbox : List Packet) (s : State) : Prop where
  table : s.config.statusTable = standardStatusTable
  role : s.role = .masterReceive
  lastError : s.lastError = .ok
  length : s.length = total
  cursor : s.cursor = stored.length
  mb : s.mb.bytes stored.length = some stored
  inbox : s.inbox = inbox

/-- R27 (c), R44: an interrupt brings the received byte in the data register. -/
@[simp] theorem beginStep_eventDr_dr (c : BitVec 8) (b : Byte) (rest : List Packet) (s : State) :
    (s.beginStep (eventDr c b) rest).dr = b := rfl

/-- R102: the reply with which the next of `left` bytes is requested. -/
def replyFor (left : Nat) : Op := if 1 < left then .nextAck else .nextNack

theorem reply_eq_emit_replyFor (h : s.cursor < s.length) :
    s.reply = s.emit (replyFor (s.length - s.cursor)) := by
  unfold State.reply replyFor
  split
  · rfl
  · rw [if_pos (by omega)]

/-- After its start a read has no byte yet. -/
theorem Started.receiving {a : BusAddress} {buffer : Memory} {total : Nat} {inbox : List Packet}
    (h : Started .masterReceive a buffer total inbox s) : Receiving [] total inbox s :=
  { table := h.table
    role := h.role
    lastError := h.lastError
    length := h.length
    cursor := h.cursor
    mb := rfl
    inbox := h.inbox }

/-- R103: the address acknowledged requests the first byte. -/
theorem Receiving.addressed {total : Nat} {inbox : List Packet}
    (h : Receiving [] total (event 0x40 :: inbox) s) (hpos : 0 < total) :
    ∃ t, Runs 1 s t [replyFor total] ∧ Receiving [] total inbox t := by
  have hcursor : s.cursor = 0 := h.cursor
  have hreply := reply_eq_emit_replyFor (s := s.beginStep (event 0x40) inbox)
    (by simpa [hcursor, h.length] using hpos)
  have hrun := Runs.interrupt (i := .mrSlaAck) h.table h.role h.inbox (by decide)
    (congrArg Host.Outcome.next hreply)
  simp only [State.emit_out, State.beginStep_out, List.nil_append, State.beginStep_length,
    State.beginStep_cursor, h.length, hcursor, Nat.sub_zero] at hrun
  refine ⟨_, hrun, ?_⟩
  exact
    { table := by simp [h.table]
      role := by simp [h.role]
      lastError := by simp [h.lastError]
      length := by simp [h.length]
      cursor := by simp [hcursor]
      mb := rfl
      inbox := by simp }

/-- R104: a byte before the last is stored, and the next one requested. -/
theorem Receiving.step {stored : List Byte} {total : Nat} {b : Byte} {inbox : List Packet}
    (h : Receiving stored total (eventDr 0x50 b :: inbox) s) (hlt : stored.length + 1 < total) :
    ∃ t, Runs 1 s t [.rdData, replyFor (total - (stored.length + 1))] ∧
      Receiving (stored ++ [b]) total inbox t := by
  have hreceive := receive_of_room (s := s.beginStep (eventDr 0x50 b) inbox)
    (by simp [h.length, h.cursor]; omega)
  have hreply := reply_eq_emit_replyFor (s := (s.beginStep (eventDr 0x50 b) inbox).receive)
    (by rw [hreceive]; simpa [h.length, h.cursor] using hlt)
  rw [hreceive] at hreply
  have hrun := Runs.interrupt (i := .mrDataAck) h.table h.role h.inbox (by decide)
    ((congrArg (fun u : State => Host.Outcome.next u.reply) hreceive).trans (congrArg _ hreply))
  simp only [State.emit_out, State.beginStep_out, List.nil_append, State.beginStep_length,
    State.beginStep_cursor, h.length, h.cursor, List.singleton_append] at hrun
  refine ⟨_, hrun, ?_⟩
  exact
    { table := by simp [h.table]
      role := by simp [h.role]
      lastError := by simp [h.lastError]
      length := by simp
      cursor := by simp
      mb := by simpa using Memory.bytes_write_next b h.mb
      inbox := by simp }

/-- R105: the last byte is stored, and the transaction ends. -/
theorem Receiving.finish {stored : List Byte} {total : Nat} {b : Byte} {inbox : List Packet}
    (h : Receiving stored total (eventDr 0x58 b :: inbox) s) (hlast : stored.length + 1 = total) :
    ∃ t, Runs 1 s t [.rdData, .stop] ∧ t.mb.bytes total = some (stored ++ [b]) ∧ t.role = .idle ∧
      t.lastError = .ok ∧ t.cursor = total ∧ t.inbox = inbox := by
  have hreceive := receive_of_room (s := s.beginStep (eventDr 0x58 b) inbox)
    (by simp [h.length, h.cursor]; omega)
  have hrun := Runs.interrupt (i := .mrDataNack) h.table h.role h.inbox (by decide)
    (congrArg (fun u : State => Host.Outcome.next (u.emit .stop).terminate) hreceive)
  simp only [State.terminate_out, State.emit_out, State.beginStep_out, List.nil_append,
    List.singleton_append] at hrun
  refine ⟨_, hrun, ?_, by simp, by simp [h.lastError], by simp [h.cursor, hlast], by simp⟩
  subst hlast
  simpa [h.cursor] using Memory.bytes_write_next b h.mb

/-- The operations of `n` bytes before the last. -/
def readOps : Nat → List Op
  | 0 => []
  | n + 1 => .rdData :: replyFor (n + 1) :: readOps n

/-- All bytes but the last are stored in order. -/
theorem Receiving.runs {stored bytes : List Byte} {total : Nat} {inbox : List Packet}
    (h : Receiving stored total (bytes.map (eventDr 0x50) ++ inbox) s)
    (hlen : stored.length + bytes.length + 1 = total) :
    ∃ t, Runs bytes.length s t (readOps bytes.length) ∧ Receiving (stored ++ bytes) total inbox t := by
  induction bytes generalizing s stored with
  | nil => exact ⟨s, .zero s, by simpa using h⟩
  | cons b bytes ih =>
    rw [List.length_cons] at hlen
    obtain ⟨t, hst, ht⟩ := h.step (by omega)
    obtain ⟨u, htu, hu⟩ := ih ht (by rw [List.length_append]; simp; omega)
    refine ⟨u, ?_, by simpa using hu⟩
    have hleft : total - (stored.length + 1) = bytes.length + 1 := by omega
    have hrun := hst.trans htu
    rw [hleft, Nat.add_comm] at hrun
    exact hrun

/-- Is the operation one of the two replies to a byte request (R144, R145)? -/
def isReply (op : Op) : Bool := op == .nextAck || op == .nextNack

/-- R107: every byte request but the last is acknowledged. -/
theorem filter_isReply_readOps (n : Nat) :
    (replyFor (n + 1) :: readOps n).filter isReply = List.replicate n .nextAck ++ [.nextNack] := by
  induction n with
  | zero => rfl
  | succ n ih =>
    have hack : replyFor (n + 1 + 1) = .nextAck := if_pos (by omega)
    rw [List.replicate_succ, List.cons_append, ← ih, readOps, hack]
    rfl

theorem stop_notMem_readOps (n : Nat) : .stop ∉ replyFor (n + 1) :: readOps n := by
  have hreply (left : Nat) : Op.stop ≠ replyFor left := by
    unfold replyFor
    split <;> nofun
  induction n with
  | zero => simp [readOps, hreply]
  | succ n ih => simpa [readOps, hreply] using ih

/-- Settles O58: the command, the START dispatch, the address acknowledged, the bytes before the last,
and the last. -/
theorem readTransactionStoresEveryByteInOrder : Obligations.ReadTransactionStoresEveryByteInOrder := by
  intro s a buffer bytes last rest htable hmax hlen hen hmode hrole hin
  have hacc : s.acceptsTransaction = true := acceptsTransaction_iff.mpr ⟨⟨hen, hmode⟩, hrole⟩
  obtain ⟨t, hst, ht⟩ := runs_readFrom htable hmax hlen hacc hin
  obtain ⟨u, htu, hu⟩ := ht.sendAddress (i := .mrStart) (dir := 1) (by decide) fun _ => rfl
  obtain ⟨v, huv, hv⟩ := hu.receiving.addressed (Nat.succ_pos _)
  obtain ⟨w, hvw, hw⟩ := hv.runs (by simp)
  obtain ⟨x, hwx, hmb, hidle, herror, hcursor, hinbox⟩ := hw.finish (by simp)
  have hrun := (((hst.trans htu).trans huv).trans hvw).trans hwx
  have hops : opsSince s.history x =
      [.start, .wrData (addressByte a 1), .nextAck] ++
        (replyFor (bytes.length + 1) :: readOps bytes.length) ++ [.rdData, .stop] := by
    rw [hrun.opsSince]
    simp
  refine ⟨x, ?_, by simpa using hmb, ?_, ?_, hidle, herror, hcursor, hinbox⟩
  · have hsteps : bytes.length + 4 = 1 + 1 + 1 + bytes.length + 1 := by omega
    rw [hsteps]
    exact hrun.1
  · rw [hops, List.count_append, List.count_append,
      List.count_eq_zero.mpr (stop_notMem_readOps bytes.length)]
    simp
  · rw [hops, List.append_assoc]
    change (replyFor (bytes.length + 1) :: readOps bytes.length ++ [Op.rdData, Op.stop]).filter isReply = _
    have hnone : [Op.rdData, Op.stop].filter isReply = [] := rfl
    rw [List.filter_append, filter_isReply_readOps, hnone, List.append_nil]

end Sys2Proof.Machine
end

section
/-! PROOF. R118: a whole slave-receive transaction. -/

namespace Sys2Proof.Machine

variable {s t : State}

/-- The state of a slave-receive transaction with handler `h` in which the bytes `got` have arrived: RXB
holds those that had room. -/
structure SlaveReceiving (h : CallbackId) (cap : Nat) (got : List Byte) (inbox : List Packet)
    (s : State) : Prop where
  table : s.config.statusTable = standardStatusTable
  role : s.role = .slaveReceive
  lastError : s.lastError = .ok
  handler : s.rxHandlerActive = some h
  capacity : s.rxCapacity = cap
  cursor : s.cursor = min got.length cap
  rxb : s.rxb.bytes (min got.length cap) = some (got.take cap)
  inbox : s.inbox = inbox

/-- R110: the trigger latches the handler. -/
theorem slaveReceiving_triggered {h : CallbackId} {inbox : List Packet}
    (htable : s.config.statusTable = standardStatusTable) (hrole : s.role = .idle)
    (hh : s.rxHandler = some h) (hin : s.inbox = event 0x60 :: inbox) :
    ∃ t, Runs 1 s t [.nextAck] ∧ SlaveReceiving h s.rxCapacity [] inbox t := by
  have hrun := Runs.interrupt (i := .idleSrSlaAck) htable hrole hin (by decide) rfl
  simp only [State.triggerReceive, State.emit_out, State.beginStep_out, List.nil_append] at hrun
  refine ⟨_, hrun, ?_⟩
  exact
    { table := by simp [htable]
      role := by simp
      lastError := by simp
      handler := by simp [hh]
      capacity := by simp
      cursor := by simp
      rxb := by simp [Memory.bytes]
      inbox := by simp }

/-- R112: a byte is stored while there is room, and dropped after that. -/
theorem SlaveReceiving.step {h : CallbackId} {cap : Nat} {got : List Byte} {b : Byte}
    {inbox : List Packet} (hs : SlaveReceiving h cap got (eventDr 0x80 b :: inbox) s) :
    ∃ t reply, Runs 1 s t [.rdData, reply] ∧ isCallback reply = false ∧
      SlaveReceiving h cap (got ++ [b]) inbox t := by
  have hlen : (got ++ [b]).length = got.length + 1 := by simp
  by_cases hroom : got.length < cap
  · have hcursor : s.cursor = got.length := hs.cursor.trans (by omega)
    have hx := receiveSlave_of_room (s := s.beginStep (eventDr 0x80 b) inbox)
      (by simpa [hcursor, hs.capacity] using hroom)
    have hrun := Runs.interrupt (i := .srDataAck) hs.table hs.role hs.inbox (by decide)
      (congrArg Host.Outcome.next hx)
    simp only [State.beginStep_out, List.nil_append] at hrun
    refine ⟨_, _, hrun, rfl, ?_⟩
    have hmin : min (got.length + 1) cap = got.length + 1 := by omega
    have hrxb : s.rxb.bytes got.length = some got := by
      have hrxb := hs.rxb
      rwa [List.take_of_length_le hroom.le, Nat.min_eq_left hroom.le] at hrxb
    exact
      { table := by simp [hs.table]
        role := by simp [hs.role]
        lastError := by simp [hs.lastError]
        handler := by simp [hs.handler]
        capacity := by simp [hs.capacity]
        cursor := by simp [hcursor, hmin]
        rxb := by
          rw [hlen, hmin, List.take_of_length_le (by omega)]
          simpa [hcursor] using Memory.bytes_write_next b hrxb
        inbox := by simp }
  · have hcursor : s.cursor = cap := hs.cursor.trans (by omega)
    have hx := receiveSlave_of_full (s := s.beginStep (eventDr 0x80 b) inbox)
      (by simp [hcursor, hs.capacity])
    have hrun := Runs.interrupt (i := .srDataAck) hs.table hs.role hs.inbox (by decide)
      (congrArg Host.Outcome.next hx)
    simp only [State.beginStep_out, List.nil_append] at hrun
    refine ⟨_, _, hrun, rfl, ?_⟩
    have hmin : min (got.length + 1) cap = min got.length cap := by omega
    exact
      { table := by simp [hs.table]
        role := by simp [hs.role]
        lastError := by simp [hs.lastError]
        handler := by simp [hs.handler]
        capacity := by simp [hs.capacity]
        cursor := by simp [hs.cursor, hmin]
        rxb := by
          rw [hlen, hmin, List.take_append_of_le_length (by omega)]
          simpa using hs.rxb
        inbox := by simp }

/-- All bytes are read, and no callback is made before the stop. -/
theorem SlaveReceiving.runs {h : CallbackId} {cap : Nat} {got bytes : List Byte} {inbox : List Packet}
    (hs : SlaveReceiving h cap got (bytes.map (eventDr 0x80) ++ inbox) s) :
    ∃ t ops, Runs bytes.length s t ops ∧ ops.filter isCallback = [] ∧
      SlaveReceiving h cap (got ++ bytes) inbox t := by
  induction bytes generalizing s got with
  | nil => exact ⟨s, [], .zero s, rfl, by simpa using hs⟩
  | cons b bytes ih =>
    obtain ⟨t, reply, hst, hreply, ht⟩ := hs.step
    obtain ⟨u, ops, htu, hops, hu⟩ := ih ht
    have hrun := hst.trans htu
    rw [Nat.add_comm] at hrun
    have hread : isCallback .rdData = false := rfl
    exact ⟨u, _, hrun, by simp [hops, hreply, hread], by simpa using hu⟩

/-- R117: the stop hands over what was stored. -/
theorem SlaveReceiving.finish {h : CallbackId} {cap : Nat} {got : List Byte} {inbox : List Packet}
    (hs : SlaveReceiving h cap got (event 0xA0 :: inbox) s) :
    ∃ t, Runs 1 s t [.callRx h (got.take cap) (min got.length cap), .nextAck] ∧ t.role = .idle ∧
      t.lastError = .ok ∧ t.cursor = min got.length cap ∧ t.inbox = inbox := by
  have hx := exec_srStop_of_handler (s := s.beginStep (event 0xA0) inbox) (f := h)
    (bytes := got.take cap) (by simp [hs.handler]) (by simp [hs.cursor, hs.rxb])
  have hrun := Runs.interrupt hs.table hs.role hs.inbox (by decide) hx
  simp only [State.beginStep_out, List.nil_append, State.beginStep_cursor, hs.cursor] at hrun
  exact ⟨_, hrun, by simp, by simp [hs.lastError], by simp, by simp⟩

/-- Settles O59: the trigger, the bytes, and the stop, which makes the only callback. -/
theorem slaveReceiveDeliversUpToCapacity : Obligations.SlaveReceiveDeliversUpToCapacity := by
  intro s h bytes rest htable hrole hh hin
  obtain ⟨t, hst, ht⟩ := slaveReceiving_triggered htable hrole hh hin
  obtain ⟨u, ops, htu, hops, hu⟩ := ht.runs
  obtain ⟨v, huv, hidle, herror, hcursor, hinbox⟩ := hu.finish
  have hrun := (hst.trans htu).trans huv
  rw [List.nil_append] at hrun hcursor
  have hsteps : bytes.length + 2 = 1 + bytes.length + 1 := by omega
  refine ⟨v, hsteps ▸ hrun.1, ?_, ?_, hidle, herror, hcursor, hinbox⟩
  · have hack : isCallback .nextAck = false := rfl
    have hcall (bs : List Byte) (n : Nat) : isCallback (.callRx h bs n) = true := rfl
    rw [hrun.opsSince]
    simp [hops, hack, hcall]
  · rw [hrun.opsSince, List.getLast?_append]
    rfl

end Sys2Proof.Machine
end

section
/-! PROOF. R125: a whole slave-transmit transaction. -/

namespace Sys2Proof.Machine

variable {s t : State}

/-- The state of a slave-transmit transaction of `total` bytes in which `bytes` are still to go. -/
structure SlaveSending (bytes : List Byte) (total : Nat) (inbox : List Packet) (s : State) : Prop where
  table : s.config.statusTable = standardStatusTable
  role : s.role = .slaveTransmit
  lastError : s.lastError = .ok
  length : s.length = total
  cursor : s.cursor + bytes.length = total
  holds : s.txb.HoldsFrom s.cursor bytes
  inbox : s.inbox = inbox

/-- R120: a byte with its reply, which announces the last byte. -/
def announced (b : Byte) (following : List Byte) : List Op :=
  [.wrData b, if following.isEmpty then .nextNack else .nextAck]

/-- The operations that send `bytes`, the last of them announced. -/
def announcedOps : List Byte → List Op
  | [] => []
  | b :: bytes => announced b bytes ++ announcedOps bytes

theorem announcedOps_append_singleton (bytes : List Byte) (last : Byte) :
    announcedOps (bytes ++ [last]) =
      bytes.flatMap (fun b => [.wrData b, .nextAck]) ++ [.wrData last, .nextNack] := by
  induction bytes with
  | nil => rfl
  | cons b bytes ih => simp [announcedOps, announced, ih]

/-- R122: one byte. -/
theorem SlaveSending.step {b : Byte} {bytes : List Byte} {total : Nat} {inbox : List Packet}
    (h : SlaveSending (b :: bytes) total (event 0xB8 :: inbox) s) :
    ∃ t, Runs 1 s t (announced b bytes) ∧ SlaveSending bytes total inbox t := by
  have hcursor : s.cursor + (bytes.length + 1) = total := h.cursor
  have hlt : (s.beginStep (event 0xB8) inbox).cursor < (s.beginStep (event 0xB8) inbox).length := by
    simp [h.length]
    omega
  have hx := (exec_stDataAck_of_lt hlt).trans (sendSlave_of_byte (b := b) hlt (by simpa using h.holds.head))
  have hrun := Runs.interrupt h.table h.role h.inbox (by decide) hx
  have hlast : (s.cursor + 1 < total) ↔ ¬ bytes.isEmpty = true := by
    rw [List.isEmpty_iff_length_eq_zero]
    omega
  simp only [State.beginStep_out, List.nil_append, State.beginStep_cursor, State.beginStep_length,
    h.length, hlast, ite_not] at hrun
  refine ⟨_, hrun, ?_⟩
  exact
    { table := by simp [h.table]
      role := by simp [h.role]
      lastError := by simp [h.lastError]
      length := by simp
      cursor := by simp; omega
      holds := by simpa using h.holds.tail
      inbox := by simp }

/-- The bytes still to go are sent in order. -/
theorem SlaveSending.runs {bytes : List Byte} {total : Nat} {inbox : List Packet}
    (h : SlaveSending bytes total (List.replicate bytes.length (event 0xB8) ++ inbox) s) :
    ∃ t, Runs bytes.length s t (announcedOps bytes) ∧ SlaveSending [] total inbox t := by
  induction bytes generalizing s with
  | nil => exact ⟨s, .zero s, h⟩
  | cons b bytes ih =>
    obtain ⟨t, hst, ht⟩ := h.step
    obtain ⟨u, htu, hu⟩ := ih ht
    have hrun := hst.trans htu
    rw [Nat.add_comm] at hrun
    exact ⟨u, hrun, hu⟩

/-- R124: the completion of the final byte. -/
theorem SlaveSending.finish {total : Nat} {inbox : List Packet}
    (h : SlaveSending [] total (event 0xC8 :: inbox) s) :
    ∃ t, Runs 1 s t [.nextAck] ∧ t.role = .idle ∧ t.lastError = .ok ∧ t.cursor = total ∧
      t.inbox = inbox := by
  have hcursor : s.cursor = total := h.cursor
  have hrun := Runs.interrupt (i := .stLastData) h.table h.role h.inbox (by decide) rfl
  simp only [State.rearm, State.terminate_out, State.emit_out, State.beginStep_out,
    List.nil_append] at hrun
  exact ⟨_, hrun, by simp, by simp [h.lastError], by simp [hcursor], by simp⟩

/-- R121: the trigger asks the provider and sends the first of the bytes it takes. -/
theorem slaveSending_triggered {p : CallbackId} {tx bytes : List Byte} {b : Byte} {inbox : List Packet}
    (htable : s.config.statusTable = standardStatusTable) (hrole : s.role = .idle)
    (hp : s.txProvider = some p) (htaken : tx.take (min tx.length s.maxTxLength) = b :: bytes)
    (hin : s.inbox = .interrupt 0xA8 0 tx :: inbox) :
    ∃ t, Runs 1 s t (.callTx p :: announced b bytes) ∧
      SlaveSending bytes (min tx.length s.maxTxLength) inbox t := by
  have hprefix : b :: bytes <+: tx := htaken ▸ List.take_prefix _ tx
  have htotal : bytes.length + 1 = min tx.length s.maxTxLength := by
    rw [← List.length_cons (a := b), ← htaken, List.length_take]
    omega
  obtain ⟨tail, htx⟩ := hprefix
  have hx := (slaveTransmitTriggerSendsTheFirstByte
    (s.beginStep (.interrupt 0xA8 0 tx) inbox)).1 p b (bytes ++ tail)
  have hans : (s.beginStep (.interrupt 0xA8 0 tx) inbox).txAnswer = tx := rfl
  rw [hans] at hx
  have hrun := Runs.interrupt htable hrole hin (by decide)
    (hx (by simp [hp]) htx.symm (by simp; omega))
  have hlast : 1 < min tx.length s.maxTxLength ↔ ¬ bytes.isEmpty = true := by
    rw [List.isEmpty_iff_length_eq_zero]
    omega
  simp only [State.beginStep_out, List.nil_append, State.beginStep_maxTxLength, hlast, ite_not] at hrun
  refine ⟨_, hrun, ?_⟩
  exact
    { table := by simp [htable]
      role := by simp
      lastError := by simp
      length := by simp
      cursor := by simp; omega
      holds := (Memory.holdsFrom_ofBytes ⟨tail, htx⟩).tail
      inbox := by simp }

theorem isCallback_announcedOps {bytes : List Byte} {op : Op} (h : op ∈ announcedOps bytes) :
    isCallback op = false := by
  induction bytes with
  | nil => cases h
  | cons b bytes ih =>
    simp only [announcedOps, announced, List.cons_append, List.nil_append, List.mem_cons] at h
    obtain rfl | rfl | h := h
    · rfl
    · split <;> rfl
    · exact ih h

/-- R125: the sending operations in the form of the statement. -/
theorem announcedOps_take_succ {tx : List Byte} {n : Nat} (h : n < tx.length) :
    announcedOps (tx.take (n + 1)) =
      (tx.take n).flatMap (fun b => [.wrData b, .nextAck]) ++
        ((tx.drop n).take 1).flatMap (fun b => [.wrData b, .nextNack]) := by
  rw [← List.take_concat_get' tx n h, announcedOps_append_singleton, List.drop_eq_getElem_cons h]
  rfl

/-- Settles O60: the trigger with the first byte, the bytes acknowledged, and the completion of the
last. -/
theorem slaveTransmitSendsUpToTheMaximum : Obligations.SlaveTransmitSendsUpToTheMaximum := by
  intro s p tx n rest htable hrole hp hn hin
  have hlt : n < tx.length := by omega
  obtain ⟨b, bytes, hsent⟩ := List.exists_cons_of_length_eq_add_one
    (show (tx.take (n + 1)).length = n + 1 by rw [List.length_take]; omega)
  have hbytes : bytes.length = n := by
    have hlen := congrArg List.length hsent
    rw [List.length_take, List.length_cons] at hlen
    omega
  obtain ⟨t, hst, ht⟩ := slaveSending_triggered htable hrole hp (hn ▸ hsent) hin
  rw [← hn, ← hbytes] at ht
  obtain ⟨u, htu, hu⟩ := ht.runs
  obtain ⟨v, huv, hidle, herror, hcursor, hinbox⟩ := hu.finish
  have hrun := (hst.trans htu).trans huv
  have hops : opsSince s.history v = [.callTx p] ++ announcedOps (tx.take (n + 1)) ++ [.nextAck] := by
    rw [hrun.opsSince, hsent, announcedOps, List.singleton_append, List.cons_append]
  have hcall : (announcedOps (tx.take (n + 1))).filter isCallback = [] :=
    List.filter_eq_nil_iff.mpr fun op hop => by simp [isCallback_announcedOps hop]
  have hrest : (announcedOps (tx.take (n + 1))).filter (fun op => !isCallback op) =
      announcedOps (tx.take (n + 1)) :=
    List.filter_eq_self.mpr fun op hop => by simp [isCallback_announcedOps hop]
  have hsteps : n + 2 = 1 + bytes.length + 1 := by omega
  refine ⟨v, hsteps ▸ hrun.1, ?_, ?_, hidle, herror, hbytes ▸ hcursor, hinbox⟩
  · rw [hops, List.filter_append, List.filter_append, hcall]
    rfl
  · rw [hops, List.filter_append, List.filter_append, hrest, announcedOps_take_succ hlt]
    rfl

end Sys2Proof.Machine
end
